-- ==== Sys2Proof/Word.lean ====
section
/-! DEFINITION. The word types of OLEDFB: bytes, 16-bit operand fields, the 72-bit header, the 16-bit response. -/

namespace Sys2Proof

/-- A byte: 8 bits, bit `i` of weight `2^i` (00_scope R13). -/
abbrev Byte := BitVec 8

/-- A 16-bit operand field, a 16-bit register or the 16-bit response (30_encoding R83, R85). -/
abbrev Half := BitVec 16

/-- A header written as one 72-bit number (30_encoding R83). -/
abbrev HeaderWord := BitVec 72

end Sys2Proof
end

