-- ==== Sys2Proof/Config.lean ====
section
/-! DEFINITION. What is fixed for the machine: the parameters of 00_scope R10 (those with a value, and those the spec leaves
OPEN, as constants without a body), and the free values (also without a body) that stand for what the spec leaves
unspecified. -/

namespace Sys2Proof

/-- The transport's answer to one transaction: `Ok` or `Err(e)` with an opaque 8-bit `e` (20_memory R60, 60_exceptions R173). -/
inductive Answer where
  | ok
  | err (e : Byte)
deriving DecidableEq, Repr, Inhabited

/-- The allocator's answer at INIT, asked only where `ALLOC_CAN_FAIL` is true (41_init R122). -/
inductive AllocAnswer where
  | granted
  | fail
deriving DecidableEq, Repr, Inhabited

/-- The working registers of the sequencers, by name (10_state R22). -/
inductive WorkReg where
  | cx | cy | ex | ey | dx | dy | sx | sy | err | e2 | cursor | chi | pageCtr | phase | initIdx | fillIdx
deriving DecidableEq, Repr

/-- The width the table of 10_state R22 gives each working register. -/
def WorkReg.width : WorkReg → Nat
  | .cx => 16 | .cy => 16 | .ex => 16 | .ey => 16 | .dx => 16 | .dy => 16
  | .sx => 1 | .sy => 1 | .err => 18 | .e2 => 19
  | .cursor => 8 | .chi => 16 | .pageCtr => 5 | .phase => 2 | .initIdx => 6 | .fillIdx => 12

namespace Config

/-! ## Parameters with a value (00_scope R10) -/

/-- `WIDTH`: pixels per row, bytes per page. -/
def width : Nat := 128
/-- `HEIGHT`: pixel rows. -/
def height : Nat := 128
/-- `PAGES = HEIGHT / 8`. -/
def pages : Nat := 16
/-- `FB_BYTES = PAGES × WIDTH`. -/
def fbBytes : Nat := 2048
/-- `GLYPH_W`: column bytes per glyph. -/
def glyphW : Nat := 6
/-- `GLYPH_H`: rows per glyph, rows per page. -/
def glyphH : Nat := 8
/-- The largest payload: `LEN_BITS` = 16 bits of length (30_encoding R86). -/
def maxPayload : Nat := 65535
/-- `COL_OFFSET`: a configurable constant, 2 in this spec (00_scope R10, 45_refresh R162). -/
def colOffset : Byte := 2
/-- `ALLOC_CAN_FAIL`: false, the framebuffer is a fixed memory of the block (41_init R122). -/
def allocCanFail : Bool := false

/-! ## OPEN parameters (00_scope R10): constants without a body -/

/-- `CTRL_CMD`: the control byte of a command frame (30_encoding R88). -/
opaque ctrlCmd : Byte
/-- How far `CTRL_DATA` lies above `CTRL_CMD`, less one: any of 0..254, so that every pair of different bytes is met. -/
opaque ctrlGap : Fin 255
/-- `CTRL_DATA`: the control byte of a data frame, different from `CTRL_CMD` (30_encoding R88) and otherwise any byte. -/
def ctrlData : Byte := ctrlCmd + BitVec.ofNat 8 (ctrlGap.val + 1)
/-- `EncPage(p)`, `p` in 0..15: the "select page address" command byte. -/
opaque encPage : BitVec 4 → Byte
/-- `EncColLo(c)`: the "set low column address" command byte. -/
opaque encColLo : Byte → Byte
/-- `EncColHi(c)`: the "set high column address" command byte. -/
opaque encColHi : Byte → Byte
/-- The first command byte of each of the 14 power-up steps (41_init R121, R123). -/
opaque initFirst : Fin 14 → Byte
/-- The second command byte of a power-up step, where the step has one. -/
opaque initSecond : Fin 14 → Byte
/-- Whether a power-up step has a second byte, for the steps of which the spec does not say (41_init R121, R123). -/
opaque initHasSecond : Fin 14 → Bool
/-- The glyph ROM: byte `k` of entry `e` at address `6 × e + k`, 228 bytes (10_state R30, R32). -/
opaque glyphRom : Fin 228 → Byte

/-! ## Free values: what the environment chooses and what the spec leaves unspecified -/

/-- The transport's answer to the `n`-th transaction for which the state holds no answer (20_memory R61, log 3). -/
opaque transportAnswer : Nat → Answer
/-- The allocator's answer where the state holds none (41_init R122, log 15). -/
opaque allocatorAnswer : Nat → AllocAnswer
/-- What a working register holds between operations (10_state R22, R23, log 8). -/
opaque freeWork : (r : WorkReg) → Nat → BitVec r.width
/-- What `BUS_ID` holds after RELEASE or a failed allocation (41_init R122, R127, log 9). -/
opaque freeBusId : Nat → Byte
/-- What `DEV_ADDR` holds after RELEASE or a failed allocation (41_init R122, R127, log 9). -/
opaque freeDevAddr : Nat → BitVec 7
/-- What framebuffer byte `i` holds after RELEASE or a failed allocation (41_init R122, R127, log 9): draw, then `i`. -/
opaque freeFbByte : Nat → Nat → Byte

end Config
end Sys2Proof
end

