-- ==== Sys2Proof/Syntax.lean ====
section
/-! DEFINITION. The instruction set: the nine host operations of 30_encoding R82, one constructor per row of the opcode
table, with the operands of R84. A payload is part of its operation. -/

namespace Sys2Proof

/-- The nine operations (30_encoding R82, R84). Coordinates are the 16-bit two's-complement fields themselves; their integer
values are `sext_16` (`Machine.coord`). The length operand `n` of DRAW_TEXT and WRITE_DATA is the payload's length. -/
inductive Instr where
  | init (busId : Byte) (address : BitVec 7)
  | clear (fill : Bool)
  | setPoint (x y : Half) (on : Bool)
  | drawLine (x0 y0 x1 y1 : Half)
  | drawText (line : Half) (text : List Byte)
  | refresh
  | release
  | writeCmd (byte : Byte)
  | writeData (bytes : List Byte)
deriving DecidableEq, Repr

/-- The mnemonic of the operation's row in the opcode table. -/
def Instr.mnemonic : Instr → String
  | .init _ _ => "INIT"
  | .clear _ => "CLEAR"
  | .setPoint _ _ _ => "SET_POINT"
  | .drawLine _ _ _ _ => "DRAW_LINE"
  | .drawText _ _ => "DRAW_TEXT"
  | .refresh => "REFRESH"
  | .release => "RELEASE"
  | .writeCmd _ => "WRITE_CMD"
  | .writeData _ => "WRITE_DATA"

end Sys2Proof
end

