-- ==== Sys2Proof/WellFormed.lean ====
section
/-! DEFINITION. Which terms of `Instr` stand for a packet: the operand widths are in the types, and a payload has at most
65535 bytes, because its length is a 16-bit operand (30_encoding R84, R86). -/

namespace Sys2Proof

/-- The checks on an instruction that its type does not make. -/
def Instr.wellFormed : Instr → Bool
  | .init _ _ => true
  | .clear _ => true
  | .setPoint _ _ _ => true
  | .drawLine _ _ _ _ => true
  | .drawText _ text => decide (text.length ≤ Config.maxPayload)
  | .refresh => true
  | .release => true
  | .writeCmd _ => true
  | .writeData bytes => decide (bytes.length ≤ Config.maxPayload)

end Sys2Proof
end

