-- ==== Sys2Proof/Decode.lean ====
section
/-! DEFINITION. The header format, the decoder (total on every header with every payload, rejecting by name) and after it
the encoder, both from 30_encoding R82 to R87; the opcode table's masks and matches (R93); the host's numbering of a
table word. -/

namespace Sys2Proof

/-- The fields of the one header format W72 (30_encoding R83). -/
structure Header where
  opc : Byte
  a : Half
  b : Half
  c : Half
  d : Half
deriving DecidableEq, Repr

/-- A packet: a header and the payload bytes up to the packet's end, which the port marks (30_encoding R80). -/
structure Packet where
  header : Header
  payload : List Byte
deriving DecidableEq, Repr

/-- The fields of a 72-bit header word: OPC 71:64, A 63:48, B 47:32, C 31:16, D 15:0 (30_encoding R83). -/
def Header.ofWord (h : HeaderWord) : Header where
  opc := h.extractLsb' 64 8
  a := h.extractLsb' 48 16
  b := h.extractLsb' 32 16
  c := h.extractLsb' 16 16
  d := h.extractLsb' 0 16

/-- The header as one number, opcode in the high bits (30_encoding R83). -/
def Header.toWord (h : Header) : HeaderWord := h.opc ++ h.a ++ h.b ++ h.c ++ h.d

/-- Why a packet is illegal (30_encoding R87). `shortHeader` is the decoder's own, for fewer than nine bytes: no packet of
the port is that short. -/
inductive Illegal where
  | reservedOpcode
  | reservedBits
  | payloadLength
  | shortHeader
deriving DecidableEq, Repr

/-- An operation whose "zero" bits and payload length have been looked at: legal only where both hold (30_encoding R87). -/
def legalIf (zeros lengthOk : Bool) (i : Instr) : Except Illegal Instr :=
  if zeros then if lengthOk then .ok i else .error .payloadLength else .error .reservedBits

/-- `A[15:8]` is zero (30_encoding R84). -/
def highByteZero (v : Half) : Bool := v.extractLsb' 8 8 == 0
/-- `B[15:7]` is zero (30_encoding R84). -/
def high9Zero (v : Half) : Bool := v.extractLsb' 7 9 == 0
/-- `A[15:1]` (or `C[15:1]`) is zero (30_encoding R84). -/
def high15Zero (v : Half) : Bool := v.extractLsb' 1 15 == 0
/-- The whole field is zero (30_encoding R84). -/
def fieldZero (v : Half) : Bool := v == 0

/-- The decoder: the operation a packet stands for, or why it is illegal (30_encoding R82, R84, R86, R87). -/
def decode (p : Packet) : Except Illegal Instr :=
  match p.header.opc.toNat with
  | 0x01 =>
    legalIf (highByteZero p.header.a && high9Zero p.header.b && fieldZero p.header.c && fieldZero p.header.d)
      p.payload.isEmpty (.init (p.header.a.setWidth 8) (p.header.b.setWidth 7))
  | 0x02 =>
    legalIf (high15Zero p.header.a && fieldZero p.header.b && fieldZero p.header.c && fieldZero p.header.d)
      p.payload.isEmpty (.clear (p.header.a.getLsbD 0))
  | 0x03 =>
    legalIf (high15Zero p.header.c && fieldZero p.header.d)
      p.payload.isEmpty (.setPoint p.header.a p.header.b (p.header.c.getLsbD 0))
  | 0x04 =>
    legalIf true p.payload.isEmpty (.drawLine p.header.a p.header.b p.header.c p.header.d)
  | 0x05 =>
    legalIf (fieldZero p.header.c && fieldZero p.header.d)
      (p.payload.length == p.header.b.toNat) (.drawText p.header.a p.payload)
  | 0x06 =>
    legalIf (fieldZero p.header.a && fieldZero p.header.b && fieldZero p.header.c && fieldZero p.header.d)
      p.payload.isEmpty .refresh
  | 0x07 =>
    legalIf (fieldZero p.header.a && fieldZero p.header.b && fieldZero p.header.c && fieldZero p.header.d)
      p.payload.isEmpty .release
  | 0x08 =>
    legalIf (highByteZero p.header.a && fieldZero p.header.b && fieldZero p.header.c && fieldZero p.header.d)
      p.payload.isEmpty (.writeCmd (p.header.a.setWidth 8))
  | 0x09 =>
    legalIf (fieldZero p.header.b && fieldZero p.header.c && fieldZero p.header.d)
      (p.payload.length == p.header.a.toNat) (.writeData p.payload)
  | _ => .error .reservedOpcode

/-! ## A packet as bytes -/

/-- Byte `k` of a header as the port carries it: the first byte is bits 71:64 (30_encoding R83, 20_memory R55). -/
def HeaderWord.byte (h : HeaderWord) (k : Nat) : Byte := h.extractLsb' (8 * (8 - k)) 8

/-- The nine bytes of a header, the opcode first. -/
def HeaderWord.bytes (h : HeaderWord) : List Byte := (List.range 9).map (HeaderWord.byte h)

/-- A packet as the byte sequence of the command port: nine header bytes, then the payload. -/
def Packet.toBytes (p : Packet) : List Byte := HeaderWord.bytes p.header.toWord ++ p.payload

/-- The packet a byte sequence is. -/
def packetOfBytes : List Byte → Except Illegal Packet
  | o :: a1 :: a0 :: b1 :: b0 :: c1 :: c0 :: d1 :: d0 :: payload =>
    .ok ⟨⟨o, a1 ++ a0, b1 ++ b0, c1 ++ c0, d1 ++ d0⟩, payload⟩
  | _ => .error .shortHeader

/-- The decoder on the bytes of a packet, total on any bytes. -/
def decodeBytes (bs : List Byte) : Except Illegal Instr :=
  match packetOfBytes bs with
  | .ok p => decode p
  | .error e => .error e

/-! ## The encoder -/

/-- A Boolean operand as the lowest bit of its field (30_encoding R84). -/
def boolField (b : Bool) : Half := (BitVec.ofBool b).setWidth 16

/-- The length operand of a payload (30_encoding R84, R86). -/
def lengthField (bs : List Byte) : Half := BitVec.ofNat 16 bs.length

/-- The packet of an operation (30_encoding R82, R84, R90). -/
def encode : Instr → Packet
  | .init busId address => ⟨⟨0x01, busId.setWidth 16, address.setWidth 16, 0, 0⟩, []⟩
  | .clear fill => ⟨⟨0x02, boolField fill, 0, 0, 0⟩, []⟩
  | .setPoint x y on => ⟨⟨0x03, x, y, boolField on, 0⟩, []⟩
  | .drawLine x0 y0 x1 y1 => ⟨⟨0x04, x0, y0, x1, y1⟩, []⟩
  | .drawText line text => ⟨⟨0x05, line, lengthField text, 0, 0⟩, text⟩
  | .refresh => ⟨⟨0x06, 0, 0, 0, 0⟩, []⟩
  | .release => ⟨⟨0x07, 0, 0, 0, 0⟩, []⟩
  | .writeCmd byte => ⟨⟨0x08, byte.setWidth 16, 0, 0, 0⟩, []⟩
  | .writeData bytes => ⟨⟨0x09, lengthField bytes, 0, 0, 0⟩, bytes⟩

/-! ## The opcode table (30_encoding R93) -/

/-- Which field gives a row's payload length. -/
inductive LengthFrom where
  | zero
  | fieldA
  | fieldB
deriving DecidableEq, Repr

/-- One row of the opcode table. -/
structure OpRow where
  mnemonic : String
  pattern : HeaderWord
  mask : HeaderWord
  payload : LengthFrom
deriving DecidableEq, Repr

/-- The nine rows, as the spec's table writes them. -/
def opcodeTable : List OpRow :=
  [⟨"INIT", 0x010000000000000000, 0xFFFF00FF80FFFFFFFF, .zero⟩,
   ⟨"CLEAR", 0x020000000000000000, 0xFFFFFEFFFFFFFFFFFF, .zero⟩,
   ⟨"SET_POINT", 0x030000000000000000, 0xFF00000000FFFEFFFF, .zero⟩,
   ⟨"DRAW_LINE", 0x040000000000000000, 0xFF0000000000000000, .zero⟩,
   ⟨"DRAW_TEXT", 0x050000000000000000, 0xFF00000000FFFFFFFF, .fieldB⟩,
   ⟨"REFRESH", 0x060000000000000000, 0xFFFFFFFFFFFFFFFFFF, .zero⟩,
   ⟨"RELEASE", 0x070000000000000000, 0xFFFFFFFFFFFFFFFFFF, .zero⟩,
   ⟨"WRITE_CMD", 0x080000000000000000, 0xFFFF00FFFFFFFFFFFF, .zero⟩,
   ⟨"WRITE_DATA", 0x090000000000000000, 0xFF0000FFFFFFFFFFFF, .fieldA⟩]

/-- The payload length a header must come with. -/
def LengthFrom.length (f : LengthFrom) (h : Header) : Nat :=
  match f with
  | .zero => 0
  | .fieldA => h.a.toNat
  | .fieldB => h.b.toNat

/-- The row's test of a packet: `(h & mask) = match`, and the payload's length (30_encoding R93). -/
def OpRow.accepts (r : OpRow) (p : Packet) : Bool :=
  (p.header.toWord &&& r.mask == r.pattern) && (p.payload.length == r.payload.length p.header)

/-! ## The host's numbering of a table word -/

/-- How many payload bytes a header announces (30_encoding R84): DRAW_TEXT `B`, WRITE_DATA `A`, every other 0. -/
def announcedLength (h : Header) : Nat :=
  match h.opc.toNat with
  | 0x05 => h.b.toNat
  | 0x09 => h.a.toNat
  | _ => 0

/-- The packet of a table word (log 22): bits 71:0 are the header as the table numbers it, bits 72 and up are the payload,
its first byte lowest, and every bit from `nbits` up is 0. -/
def tablePacket (nbits w : Nat) : Packet :=
  let v := w % 2 ^ nbits
  let h := Header.ofWord (BitVec.ofNat 72 v)
  ⟨h, (List.range (announcedLength h)).map fun j => BitVec.ofNat 8 (v >>> (72 + 8 * j))⟩

/-- The instruction the decoder reads from a table word. -/
def decodeTableWord (nbits w : Nat) : Option Instr :=
  match decodeBytes (tablePacket nbits w).toBytes with
  | .ok i => some i
  | .error _ => none

end Sys2Proof
end

