-- ==== Sys2Proof/Machine/State.lean ====
section
/-! DEFINITION. The state of OLEDFB: everything 10_state R20 lists, the two records of 10_state R34, and the model's own
fields for what comes from outside. The reasons a step can stop. The state after reset (70_reset_and_hazards R200). -/

namespace Sys2Proof.Machine

/-- The result codes (60_exceptions R171, 30_encoding R85). -/
inductive ResultCode where
  | ok
  | rangeErr
  | busErr
  | allocFail
  | noDevice
  | illegalOp
deriving DecidableEq, Repr

/-- The sequencer register: no operation, the checks of a packet, or inside one of the nine operations; where inside it, the
working registers say (10_state R24, log 21). -/
inductive Seq where
  | idle
  | checks
  | init
  | clear
  | setPoint
  | drawLine
  | drawText
  | refresh
  | release
  | writeCmd
  | writeData
deriving DecidableEq, Repr

/-- The working registers of the line rasterizer at the widths of 10_state R22. `sx`, `sy`: 1 means +1, 0 means -1. -/
structure LineRegs where
  cx : BitVec 16
  cy : BitVec 16
  ex : BitVec 16
  ey : BitVec 16
  dx : BitVec 16
  dy : BitVec 16
  sx : BitVec 1
  sy : BitVec 1
  err : BitVec 18
  e2 : BitVec 19
deriving DecidableEq, Repr

/-- The working registers of the text sequencer (10_state R22). -/
structure TextRegs where
  cursor : BitVec 8
  chi : BitVec 16
deriving DecidableEq, Repr

/-- The working registers of the page-to-column address sequencer (10_state R22). -/
structure ScanRegs where
  pageCtr : BitVec 5
  phase : BitVec 2
deriving DecidableEq, Repr

/-- One call of `BusTransact` with its answer: an entry of the bus trace (00_scope R14, 10_state R34). -/
structure Transaction where
  bus : Byte
  addr : BitVec 7
  bytes : List Byte
  answer : Answer
deriving DecidableEq, Repr

/-- What the host does to the block: offers a packet on the command port (30_encoding R80) or resets the block
(70_reset_and_hazards R200). -/
inductive HostInput where
  | packet (header : HeaderWord) (payload : List Byte)
  | reset
deriving DecidableEq, Repr

/-- The framebuffer: (byte index, byte) pairs, indices strictly rising, no pair equal to what an unlisted index reads as
(10_state R29, 20_memory R50, log 5). -/
abbrev Memory := List Host.Cell

/-- The whole state. -/
structure State where
  /-- `DEV_VALID` (10_state R25). -/
  devValid : Bool
  /-- `BUS_ID` (10_state R25). -/
  busId : Byte
  /-- `DEV_ADDR` (10_state R25). -/
  devAddr : BitVec 7
  /-- `FB` (10_state R29). -/
  fb : Memory
  /-- `STATUS.BUSY` (10_state R26). -/
  busy : Bool
  /-- `STATUS.INIT_WARN` (10_state R26, R27). -/
  initWarn : Bool
  /-- `STATUS.LAST_RESULT` (10_state R26). -/
  lastResult : ResultCode
  /-- `STATUS.LAST_INFO` (10_state R26). -/
  lastInfo : Byte
  /-- `OPC` (10_state R21). -/
  opc : Byte
  /-- `A` (10_state R21). -/
  a : Half
  /-- `B` (10_state R21). -/
  b : Half
  /-- `C` (10_state R21). -/
  c : Half
  /-- `D` (10_state R21). -/
  d : Half
  /-- `PAY` (10_state R21). -/
  pay : List Byte
  /-- `SEQ` (10_state R24). -/
  seq : Seq
  /-- `CX`, `CY`, `EX`, `EY`, `DX`, `DY`, `SX`, `SY`, `ERR`, `E2` (10_state R22). -/
  line : LineRegs
  /-- `CURSOR`, `CHI` (10_state R22). -/
  text : TextRegs
  /-- `PAGE_CTR`, `PHASE` (10_state R22). -/
  scan : ScanRegs
  /-- `INIT_IDX` (10_state R22). -/
  initIdx : BitVec 6
  /-- `FILL_IDX` (10_state R22). -/
  fillIdx : BitVec 12
  /-- The bus trace, oldest first (10_state R34). -/
  trace : List Transaction
  /-- The responses issued, oldest first (30_encoding R80, R85). -/
  responses : List Half
  /-- The model's own: what the host will do, first one next (log 2). -/
  host : List HostInput
  /-- The model's own: the transport's coming answers, first one next (20_memory R61, log 3). -/
  answers : List Answer
  /-- The model's own: answers drawn from `Config.transportAnswer` so far (log 3). -/
  answerDraws : Nat
  /-- The model's own: the allocator's coming answers (41_init R122, log 15). -/
  allocs : List AllocAnswer
  /-- The model's own: the counter the free values are applied to (log 8). -/
  draws : Nat
deriving DecidableEq, Repr

/-- Why the machine has no step. No instruction raises one. -/
inductive Fault where
  /-- Raised by `step` where the host resets a busy block: 70_reset_and_hazards R202 gives it no step. Safe. -/
  | resetWhileBusy
  /-- Raised by `step` in a state from the middle of an operation, which no run reaches: an operation is one step
  (10_state R24), so the model has no continuation there. Safe. -/
  | midOperation
deriving DecidableEq, Repr

/-- Why an instruction is refused. -/
inductive Refusal where
  /-- Raised by `exec` for an instruction without a meaning; none is left. Safe. -/
  | notModelled (mnemonic : String)
deriving DecidableEq, Repr

/-- Every line register 0: the reset value the model names (70_reset_and_hazards R200 gives none, log 7). -/
def LineRegs.zero : LineRegs := ⟨0, 0, 0, 0, 0, 0, 0, 0, 0, 0⟩

/-- The state right after reset (70_reset_and_hazards R200). `DEV_VALID`, the `STATUS` fields, `SEQ` and the empty trace are
the spec's; every other value is the model's (logs 2 to 8, 15, 18). -/
def State.reset : State where
  devValid := false
  busId := 0
  devAddr := 0
  fb := []
  busy := false
  initWarn := false
  lastResult := .ok
  lastInfo := 0
  opc := 0
  a := 0
  b := 0
  c := 0
  d := 0
  pay := []
  seq := .idle
  line := LineRegs.zero
  text := ⟨0, 0⟩
  scan := ⟨0, 0⟩
  initIdx := 0
  fillIdx := 0
  trace := []
  responses := []
  host := []
  answers := []
  answerDraws := 0
  allocs := []
  draws := 0

end Sys2Proof.Machine
end

