-- ==== Sys2Proof/Machine/Flags.lean ====
section
/-! DEFINITION. The only flag state of the block: the `STATUS` word (10_state R26), the result codes' numbers
(60_exceptions R171) and the response word (30_encoding R85). -/

namespace Sys2Proof.Machine

/-- The number of a result code (60_exceptions R171). -/
def ResultCode.number : ResultCode → BitVec 4
  | .ok => 0
  | .rangeErr => 1
  | .busErr => 2
  | .allocFail => 3
  | .noDevice => 4
  | .illegalOp => 5

/-- The response word `{info, 0b0000, code}` (30_encoding R85). -/
def responseWord (code : ResultCode) (info : Byte) : Half := info ++ 0#4 ++ code.number

/-- The `STATUS` register as the host samples it: `{LAST_INFO, LAST_RESULT, 0, INIT_WARN, DEV_VALID, BUSY}` (10_state R26). -/
def State.status (s : State) : Half :=
  s.lastInfo ++ s.lastResult.number ++ 0#1 ++ BitVec.ofBool s.initWarn ++ BitVec.ofBool s.devValid ++ BitVec.ofBool s.busy

end Sys2Proof.Machine
end

