-- ==== Sys2Proof/Machine/Operands.lean ====
section
/-! DEFINITION. The operand forms: how a field is read as a number (30_encoding R84) and the derived functions of a pixel
coordinate (00_scope R16). -/

namespace Sys2Proof.Machine

/-- A coordinate operand: `sext_16` of its field (30_encoding R84). -/
def coord (v : Half) : Int := v.toInt

/-- A line index or a length: `zext_16` of its field (30_encoding R84). -/
def unsigned (v : Half) : Nat := v.toNat

/-- `InBounds(x, y)` (00_scope R16). -/
def inBounds (x y : Int) : Bool :=
  decide (0 ≤ x) && decide (x < Config.width) && decide (0 ≤ y) && decide (y < Config.height)

/-- `index(x, y) = (y / 8) × WIDTH + x`, for a point in bounds (00_scope R16). -/
def pixelIndex (x y : Int) : Nat := y.toNat / 8 * Config.width + x.toNat

/-- `mask(y) = 1 << (y % 8)`: bit 0 is the least significant (00_scope R16, 20_memory R54). -/
def pixelMask (y : Int) : Byte := 1#8 <<< (y.toNat % 8)

/-- The byte with the pixel of row `y` set (OR with the mask) or cleared (AND with the inverted mask) (42_clear_point R132). -/
def withPixel (on : Bool) (y : Int) (v : Byte) : Byte :=
  if on then v ||| pixelMask y else v &&& ~~~ pixelMask y

/-- The byte index at which page `line` starts: `128 × line` (20_memory R50). -/
def pageBase (line : Nat) : Nat := line * Config.width

end Sys2Proof.Machine
end

