-- ==== Sys2Proof/Machine/Ops.lean ====
section
/-! DEFINITION. The named operations over the state: the framebuffer, the glyph ROM, the bus, the free values, how an
operation is accepted and how it ends (an error is an end with a result code: 60_exceptions R170). -/

namespace Sys2Proof.Machine

/-! ## The framebuffer (20_memory R50, R57) -/

/-- What an unlisted byte reads as (log 5). -/
def Memory.unlisted : Byte := 0x00#8

/-- The canonical form: indices strictly rising and inside 0..2047, no byte equal to what an unlisted index reads as. -/
abbrev Memory.wf (m : Memory) : Prop :=
  m.Pairwise (fun p q => p.1 < q.1) ∧ ∀ p ∈ m, p.1 < Config.fbBytes ∧ p.2 ≠ Memory.unlisted

/-- `MemRead(addr, 1)` (00_scope R14). -/
def Memory.read (m : Memory) (addr : Nat) : Byte :=
  match m with
  | [] => Memory.unlisted
  | p :: rest => if p.1 = addr then p.2 else Memory.read rest addr

/-- The cells of consecutive bytes from `addr` on, less those that read as an unlisted byte does. -/
def Memory.cells (addr : Nat) : List Byte → Memory
  | [] => []
  | v :: vs => if v = Memory.unlisted then Memory.cells (addr + 1) vs else (addr, v) :: Memory.cells (addr + 1) vs

/-- Consecutive byte writes from `addr` on, in ascending order: one region instead of a loop of `MemWrite`
(log 23, `Memory.writeRow_cons`). -/
def Memory.writeRow (m : Memory) (addr : Nat) (vs : List Byte) : Memory :=
  m.filter (fun p => decide (p.1 < addr)) ++ Memory.cells addr vs ++ m.filter (fun p => decide (addr + vs.length ≤ p.1))

/-- `MemWrite(addr, 1, v)` (00_scope R14). -/
def Memory.write (m : Memory) (addr : Nat) (v : Byte) : Memory := m.writeRow addr [v]

/-- `FB[addr .. addr+n-1]`: the bytes in ascending order (00_scope R15). -/
def Memory.readRow (m : Memory) (addr n : Nat) : List Byte := (List.range n).map fun i => m.read (addr + i)

/-- `Pixel(x, y)` of 00_scope R16: whether the pixel is lit. The block has no operation that reads it. -/
def Memory.pixel (m : Memory) (x y : Int) : Bool := (m.read (pixelIndex x y)).getLsbD (y.toNat % 8)

/-- The point write: one byte read, one bit of it changed, the byte written (20_memory R58, 42_clear_point R132). -/
def Memory.writePixel (m : Memory) (on : Bool) (x y : Int) : Memory :=
  m.write (pixelIndex x y) (withPixel on y (m.read (pixelIndex x y)))

/-- `n` bytes from `addr` on take the value `v`, counted by `FILL_IDX` (10_state R22). -/
def fillBytes (addr n : Nat) (v : Byte) (s : State) : State :=
  { s with fb := s.fb.writeRow addr (List.replicate n v), fillIdx := BitVec.ofNat 12 n }

/-! ## Plain register writes -/

/-- `FB` takes the value `m`. -/
def withFb (m : Memory) (s : State) : State := { s with fb := m }

/-- The line registers take the values `r`. -/
def withLine (r : LineRegs) (s : State) : State := { s with line := r }

/-- `CURSOR` and `CHI` take the values `t`. -/
def withText (t : TextRegs) (s : State) : State := { s with text := t }

/-- `PAGE_CTR` and `PHASE` take the values `r`. -/
def withScan (r : ScanRegs) (s : State) : State := { s with scan := r }

/-- `INIT_IDX` takes the value `i`. -/
def withInitIdx (i : BitVec 6) (s : State) : State := { s with initIdx := i }

/-- `STATUS.INIT_WARN` takes the value `w`. -/
def withInitWarn (w : Bool) (s : State) : State := { s with initWarn := w }

/-- `DEV_VALID` takes the value `v`. -/
def withDevValid (v : Bool) (s : State) : State := { s with devValid := v }

/-- `BUS_ID` and `DEV_ADDR` are latched (41_init R120). -/
def latchDevice (busId : Byte) (address : BitVec 7) (s : State) : State := { s with busId := busId, devAddr := address }

/-- What waits at the host is `inputs`. -/
def withHost (inputs : List HostInput) (s : State) : State := { s with host := inputs }

/-! ## The glyph ROM (10_state R30 to R32) -/

/-- The entry of a supported character: space, `!`, `0`–`9`, `A`–`Z` by their ASCII codes (10_state R31, R32). -/
def glyphEntry (ch : Byte) : Option (Fin 38) :=
  if ch.toNat = 0x20 then some 0
  else if ch.toNat = 0x21 then some 1
  else if h : 0x30 ≤ ch.toNat ∧ ch.toNat ≤ 0x39 then some ⟨ch.toNat - 0x30 + 2, by omega⟩
  else if h : 0x41 ≤ ch.toNat ∧ ch.toNat ≤ 0x5A then some ⟨ch.toNat - 0x41 + 12, by omega⟩
  else none

/-- The six column bytes of an entry, at ROM addresses `6 × e + k` (10_state R32). -/
def glyphColumns (e : Fin 38) : List Byte :=
  (List.finRange 6).map fun k => Config.glyphRom ⟨6 * e.val + k.val, by omega⟩

/-- `GlyphLookup(ch)` (10_state R31). -/
def glyphLookup (ch : Byte) : Option (List Byte) := (glyphEntry ch).map glyphColumns

/-! ## The bus (20_memory R60, 40_bus_protocol) -/

/-- The answer the transport will give to the transaction after the next `k`: the one the state holds, or a free one
(20_memory R61, log 3). -/
def State.nextAnswer (s : State) (k : Nat) : Answer :=
  match s.answers[k]? with
  | some r => r
  | none => Config.transportAnswer (s.answerDraws + (k - s.answers.length))

/-- The next answer is used up. -/
def dropAnswer (s : State) : State :=
  match s.answers with
  | _ :: rest => { s with answers := rest }
  | [] => { s with answerDraws := s.answerDraws + 1 }

/-- One more entry of the bus trace (10_state R34). -/
def record (x : Transaction) (s : State) : State := { s with trace := s.trace ++ [x] }

/-- `BusTransact` to the Device's bus and address: one transaction, its answer, one more entry of the trace
(00_scope R14, 20_memory R60). -/
def busTransact (bytes : List Byte) (s : State) : Answer × State :=
  (s.nextAnswer 0, record ⟨s.busId, s.devAddr, bytes, s.nextAnswer 0⟩ (dropAnswer s))

/-- The command frame of a byte (30_encoding R88). -/
def commandFrame (b : Byte) : List Byte := [Config.ctrlCmd, b]

/-- The data frame of a list of bytes (30_encoding R88). -/
def dataFrame (bs : List Byte) : List Byte := Config.ctrlData :: bs

/-- `SendCommand(b)` (40_bus_protocol R110). -/
def sendCommand (b : Byte) (s : State) : Answer × State := busTransact (commandFrame b) s

/-- `SendData(bs)` (40_bus_protocol R111). -/
def sendData (bs : List Byte) (s : State) : Answer × State := busTransact (dataFrame bs) s

/-! ## Free values -/

/-- The line registers hold no defined value after the operation (10_state R22, R23, log 8). -/
def forgetLine (s : State) : State :=
  { s with
    line :=
      { cx := Config.freeWork .cx s.draws, cy := Config.freeWork .cy s.draws
        ex := Config.freeWork .ex s.draws, ey := Config.freeWork .ey s.draws
        dx := Config.freeWork .dx s.draws, dy := Config.freeWork .dy s.draws
        sx := Config.freeWork .sx s.draws, sy := Config.freeWork .sy s.draws
        err := Config.freeWork .err s.draws, e2 := Config.freeWork .e2 s.draws }
    draws := s.draws + 1 }

/-- `CURSOR`, `CHI` and `FILL_IDX` hold no defined value after the operation (10_state R22, R23, log 8). -/
def forgetText (s : State) : State :=
  { s with
    text := ⟨Config.freeWork .cursor s.draws, Config.freeWork .chi s.draws⟩
    fillIdx := Config.freeWork .fillIdx s.draws
    draws := s.draws + 1 }

/-- `PAGE_CTR` and `PHASE` hold no defined value after the operation (10_state R22, R23, log 8). -/
def forgetScan (s : State) : State :=
  { s with
    scan := ⟨Config.freeWork .pageCtr s.draws, Config.freeWork .phase s.draws⟩
    draws := s.draws + 1 }

/-- `INIT_IDX` and `FILL_IDX` hold no defined value after the operation (10_state R22, R23, log 8). -/
def forgetInit (s : State) : State :=
  { s with
    initIdx := Config.freeWork .initIdx s.draws
    fillIdx := Config.freeWork .fillIdx s.draws
    draws := s.draws + 1 }

/-- `FILL_IDX` holds no defined value after the operation (10_state R22, R23, log 8). -/
def forgetFill (s : State) : State :=
  { s with fillIdx := Config.freeWork .fillIdx s.draws, draws := s.draws + 1 }

/-- `BUS_ID`, `DEV_ADDR` and `FB` become unspecified: every byte a free value (41_init R122, R127, log 9). -/
def forgetDevice (s : State) : State :=
  { s with
    busId := Config.freeBusId s.draws
    devAddr := Config.freeDevAddr s.draws
    fb := s.fb.writeRow 0 ((List.range Config.fbBytes).map (Config.freeFbByte s.draws))
    draws := s.draws + 1 }

/-! ## The life of an operation (30_encoding R81, 60_exceptions R170, R174) -/

/-- Acceptance of a packet: the operand registers latch it, `BUSY` is set, the checks are next (30_encoding R81 step 2). -/
def accept (h : HeaderWord) (payload : List Byte) (s : State) : State :=
  { s with
    opc := (Header.ofWord h).opc, a := (Header.ofWord h).a, b := (Header.ofWord h).b
    c := (Header.ofWord h).c, d := (Header.ofWord h).d
    pay := payload, busy := true, seq := .checks }

/-- The packet in the operand registers, which the legality check and the decoding read. -/
def State.latched (s : State) : Packet := ⟨⟨s.opc, s.a, s.b, s.c, s.d⟩, s.pay⟩

/-- The sequencer enters an operation, its checks passed (10_state R24). -/
def enter (q : Seq) (s : State) : State := { s with seq := q }

/-- The end of an operation: `LAST_RESULT`, `LAST_INFO`, the response, `BUSY` clear, `SEQ` idle (30_encoding R81 step 4). -/
def respond (code : ResultCode) (info : Byte) (s : State) : State :=
  { s with
    lastResult := code, lastInfo := info
    responses := s.responses ++ [responseWord code info]
    busy := false, seq := .idle }

/-- `raise E(info)`: the one shared way an error is taken (60_exceptions R170). There is no return from it (R176). -/
def raise (code : ResultCode) (info : Byte) (s : State) : State := respond code info s

/-- `return Ok`. -/
def complete (s : State) : State := respond .ok 0#8 s

/-- The end of an operation whose last transaction was answered `r`: `raise BUS_ERR(e)` or `return Ok`
(40_bus_protocol R112, R113, 45_refresh R161). -/
def conclude (r : Answer) (s : State) : State :=
  match r with
  | .ok => complete s
  | .err e => raise .busErr e s

/-- The device check (60_exceptions R174 step 2): every operation but INIT answers `NO_DEVICE` without a Device. -/
def guardDevice (op : State → State) (s : State) : State :=
  if s.devValid then op s else raise .noDevice 0#8 s

end Sys2Proof.Machine
end

