-- ==== Sys2Proof/Machine/Bus.lean ====
section
/-! DEFINITION. WRITE_CMD and WRITE_DATA (40_bus_protocol). -/

namespace Sys2Proof.Machine

/-- WRITE_CMD with a Device: one command frame, its answer the result (40_bus_protocol R112). -/
def writeCmd (byte : Byte) (s : State) : State :=
  match sendCommand byte (enter .writeCmd s) with
  | (r, s1) => conclude r s1

/-- WRITE_CMD (40_bus_protocol R112). -/
def execWriteCmd (byte : Byte) (s : State) : Host.Outcome State Fault Refusal := .next (guardDevice (writeCmd byte) s)

/-- WRITE_DATA with a Device: one data frame of the whole payload, its answer the result (40_bus_protocol R113). -/
def writeData (bytes : List Byte) (s : State) : State :=
  match sendData bytes (enter .writeData s) with
  | (r, s1) => conclude r s1

/-- WRITE_DATA (40_bus_protocol R113). -/
def execWriteData (bytes : List Byte) (s : State) : Host.Outcome State Fault Refusal :=
  .next (guardDevice (writeData bytes) s)

end Sys2Proof.Machine
end

