-- ==== Sys2Proof/Machine/Device.lean ====
section
/-! DEFINITION. INIT and RELEASE (41_init). -/

namespace Sys2Proof.Machine

/-- The bytes of power-up step `s`, counted from 0: one or two, two for the steps the spec counts 4, 6 and 13
(41_init R121, R123). -/
def initStep (s : Fin 14) : List Byte :=
  if s = 3 ∨ s = 5 ∨ s = 12 ∨ Config.initHasSecond s = true then [Config.initFirst s, Config.initSecond s]
  else [Config.initFirst s]

/-- `INIT_STEPS`: the fourteen steps in their order (41_init R121). -/
def initSteps : List (List Byte) := (List.finRange 14).map initStep

/-- The bytes of `INIT_STEPS` one after the other; `INIT_IDX` counts through them (10_state R22). -/
def initBytes : List Byte := initSteps.flatten

/-- Whether an answer is `Err`. -/
def isErr : Answer → Bool
  | .ok => false
  | .err _ => true

/-- The power-up sequence: every byte is sent as a command whatever the answers; an `Err` sets `INIT_WARN` and is otherwise
ignored (41_init R120, R121). -/
def initRun : List Byte → State → State
  | [], s => s
  | byte :: rest, s =>
    match sendCommand byte s with
    | (r, s1) => initRun rest (withInitIdx (s1.initIdx + 1#6) (withInitWarn (s1.initWarn || isErr r) s1))

/-- The allocator's answer: always granted unless `ALLOC_CAN_FAIL` (41_init R122, log 15). -/
def allocate (canFail : Bool) (s : State) : AllocAnswer × State :=
  if canFail then
    match s.allocs with
    | r :: rest => (r, { s with allocs := rest })
    | [] => (Config.allocatorAnswer s.draws, { s with draws := s.draws + 1 })
  else (.granted, s)

/-- An existing Device is dropped: `DEV_VALID` and `INIT_WARN` are cleared (41_init R120, R125, R127). -/
def dropDevice (s : State) : State := { s with devValid := false, initWarn := false }

/-- INIT past the allocation: the identifier and the address latched, the framebuffer zeroed, the sequence sent, the Device
valid (41_init R120). -/
def createDevice (busId : Byte) (address : BitVec 7) (s : State) : State :=
  let zeroed := fillBytes 0 Config.fbBytes 0x00#8 (latchDevice busId address s)
  let sent := initRun initBytes (withInitIdx 0#6 zeroed)
  complete (forgetInit (withDevValid true sent))

/-- INIT with `ALLOC_CAN_FAIL` as an argument (41_init R120, R122). A failed allocation leaves `BUS_ID`, `DEV_ADDR` and `FB`
unspecified. -/
def initDevice (canFail : Bool) (busId : Byte) (address : BitVec 7) (s : State) : State :=
  match allocate canFail (dropDevice (enter .init s)) with
  | (.fail, s1) => raise .allocFail 0#8 (forgetDevice s1)
  | (.granted, s1) => createDevice busId address s1

/-- INIT (41_init R120): the device check does not apply to it (60_exceptions R174). -/
def execInit (busId : Byte) (address : BitVec 7) (s : State) : Host.Outcome State Fault Refusal :=
  .next (initDevice Config.allocCanFail busId address s)

/-- RELEASE with a Device: the Device is dropped without bus traffic (41_init R127). -/
def releaseDevice (s : State) : State := complete (forgetDevice (dropDevice (enter .release s)))

/-- RELEASE (41_init R127). -/
def execRelease (s : State) : Host.Outcome State Fault Refusal := .next (guardDevice releaseDevice s)

end Sys2Proof.Machine
end

