-- ==== Sys2Proof/Machine/Draw.lean ====
section
/-! DEFINITION. CLEAR and SET_POINT (42_clear_point). -/

namespace Sys2Proof.Machine

/-- The byte CLEAR fills with (42_clear_point R130). -/
def fillValue (fill : Bool) : Byte := if fill then 0xFF#8 else 0x00#8

/-- CLEAR with a Device: all 2048 bytes take the fill value (42_clear_point R130). -/
def clearScreen (fill : Bool) (s : State) : State :=
  complete (forgetFill (fillBytes 0 Config.fbBytes (fillValue fill) (enter .clear s)))

/-- CLEAR (42_clear_point R130). -/
def execClear (fill : Bool) (s : State) : Host.Outcome State Fault Refusal := .next (guardDevice (clearScreen fill) s)

/-- SET_POINT with a Device: the bounds check on the signed coordinates, then one bit of one byte (42_clear_point R132). -/
def setPoint (x y : Int) (on : Bool) (s : State) : State :=
  if inBounds x y then complete (withFb (s.fb.writePixel on x y) (enter .setPoint s))
  else raise .rangeErr 0#8 s

/-- SET_POINT (42_clear_point R132). -/
def execSetPoint (x y : Half) (on : Bool) (s : State) : Host.Outcome State Fault Refusal :=
  .next (guardDevice (setPoint (coord x) (coord y) on) s)

end Sys2Proof.Machine
end

