-- ==== Sys2Proof/Machine/Line.lean ====
section
/-! DEFINITION. DRAW_LINE: the Bresenham line rasterizer on its working registers (43_line R141). Each assignment computes
exactly on integers and narrows to the register's width (10_state R22, 43_line R143, log 20). -/

namespace Sys2Proof.Machine

/-- The sign a one-bit step register means (10_state R22). -/
def stepOf (sign : BitVec 1) : Int := if sign = 1#1 then 1 else -1

/-- The sign bit of a step from `p` towards `q`: +1 only where `p < q` (43_line R141, R142). -/
def signToward (p q : Int) : BitVec 1 := if p < q then 1#1 else 0#1

/-- The registers before the first iteration (43_line R141). -/
def LineRegs.start (x0 y0 x1 y1 : Half) (e2 : BitVec 19) : LineRegs :=
  let dx : BitVec 16 := BitVec.ofNat 16 (coord x1 - coord x0).natAbs
  let dy : BitVec 16 := BitVec.ofNat 16 (coord y1 - coord y0).natAbs
  { cx := x0, cy := y0, ex := x1, ey := y1, dx := dx, dy := dy
    sx := signToward (coord x0) (coord x1), sy := signToward (coord y0) (coord y1)
    err := BitVec.ofInt 18 ((dx.toNat : Int) - dy.toNat), e2 := e2 }

/-- Whether the current point is the end point. -/
def LineRegs.atEnd (r : LineRegs) : Bool := decide (r.cx = r.ex) && decide (r.cy = r.ey)

/-- `E2 <- 2 × ERR`. -/
def LineRegs.double (r : LineRegs) : LineRegs := { r with e2 := BitVec.ofInt 19 (2 * r.err.toInt) }

/-- `if E2 > -DY`: the x step. -/
def LineRegs.stepX (r : LineRegs) : LineRegs :=
  if r.e2.toInt > -(r.dy.toNat : Int) then
    { r with err := BitVec.ofInt 18 (r.err.toInt - r.dy.toNat), cx := BitVec.ofInt 16 (r.cx.toInt + stepOf r.sx) }
  else r

/-- `if E2 < DX`: the y step, on the same `E2`. -/
def LineRegs.stepY (r : LineRegs) : LineRegs :=
  if r.e2.toInt < (r.dx.toNat : Int) then
    { r with err := BitVec.ofInt 18 (r.err.toInt + r.dx.toNat), cy := BitVec.ofInt 16 (r.cy.toInt + stepOf r.sy) }
  else r

/-- One move to a neighbouring lattice point (43_line R141, R142). -/
def LineRegs.move (r : LineRegs) : LineRegs := r.double.stepX.stepY

/-- The per-point bounds check and the plot: sets the pixel, never clears, skips a point out of bounds (43_line R141). -/
def plot (r : LineRegs) (m : Memory) : Memory :=
  if inBounds r.cx.toInt r.cy.toInt then m.writePixel true r.cx.toInt r.cy.toInt else m

/-- The point loop: plot, stop at the end point, else move. The number is how many iterations may still run (log 24). -/
def lineRun : Nat → LineRegs → Memory → LineRegs × Memory
  | 0, r, m => (r, m)
  | n + 1, r, m => if r.atEnd then (r, plot r m) else lineRun n r.move (plot r m)

/-- The iterations the loop takes: `max(DX, DY) + 1` (43_line R144). -/
def LineRegs.iterations (r : LineRegs) : Nat := max r.dx.toNat r.dy.toNat + 1

/-- DRAW_LINE with a Device (43_line R140, R141): it cannot fail. -/
def drawLine (x0 y0 x1 y1 : Half) (s : State) : State :=
  let start := LineRegs.start x0 y0 x1 y1 s.line.e2
  match lineRun start.iterations start s.fb with
  | (r, m) => complete (forgetLine (withLine r (withFb m (enter .drawLine s))))

/-- DRAW_LINE (43_line R140). -/
def execDrawLine (x0 y0 x1 y1 : Half) (s : State) : Host.Outcome State Fault Refusal :=
  .next (guardDevice (drawLine x0 y0 x1 y1) s)

end Sys2Proof.Machine
end

