-- ==== Sys2Proof/Machine/Refresh.lean ====
section
/-! DEFINITION. REFRESH: the page-to-column address sequencer, the pixel buffer reader and the frame streamer
(45_refresh). `PAGE_CTR` and `PHASE` say which transaction is next. -/

namespace Sys2Proof.Machine

/-- The pixel buffer reader: the 128 bytes of the page in `PAGE_CTR`, ascending (45_refresh R161, R163). -/
def pageRow (page : Nat) (m : Memory) : List Byte := m.readRow (pageBase page) Config.width

/-- The transaction `PAGE_CTR` and `PHASE` point at: page address, low column, high column, then the page's bytes as one
data frame (45_refresh R161). -/
def refreshSend (s : State) : Answer × State :=
  match s.scan.phase.toNat with
  | 0 => sendCommand (Config.encPage (s.scan.pageCtr.setWidth 4)) s
  | 1 => sendCommand (Config.encColLo Config.colOffset) s
  | 2 => sendCommand (Config.encColHi Config.colOffset) s
  | _ => sendData (pageRow s.scan.pageCtr.toNat s.fb) s

/-- The next of the four transactions of a page, or the first of the next page (10_state R22, 45_refresh R161). -/
def ScanRegs.advance (r : ScanRegs) : ScanRegs :=
  if r.phase = 3#2 then ⟨r.pageCtr + 1#5, 0#2⟩ else ⟨r.pageCtr, r.phase + 1#2⟩

/-- The page loop over the transactions that are left: it ends after the last one or at the first `Err`
(45_refresh R161, R164). -/
def refreshRun : Nat → State → Answer × State
  | 0, s => (.ok, s)
  | n + 1, s =>
    match refreshSend s with
    | (.err e, s1) => (.err e, s1)
    | (.ok, s1) => refreshRun n (withScan s1.scan.advance s1)

/-- The transactions of a whole REFRESH: four a page (45_refresh R160). -/
def refreshCount : Nat := 4 * Config.pages

/-- REFRESH with a Device: from page 0 on (45_refresh R160, R161). -/
def refreshPanel (s : State) : State :=
  match refreshRun refreshCount (withScan ⟨0#5, 0#2⟩ (enter .refresh s)) with
  | (r, s1) => conclude r (forgetScan s1)

/-- REFRESH (45_refresh R160). -/
def execRefresh (s : State) : Host.Outcome State Fault Refusal := .next (guardDevice refreshPanel s)

end Sys2Proof.Machine
end

