-- ==== Sys2Proof/Machine/Text.lean ====
section
/-! DEFINITION. DRAW_TEXT: the text blit (44_text). -/

namespace Sys2Proof.Machine

/-- One character at the cursor: a supported one is copied verbatim and moves the cursor, any other is skipped; `CHI` moves
to the next character (44_text R151). -/
def textStep (base : Nat) (ch : Byte) (t : TextRegs) (m : Memory) : TextRegs × Memory :=
  match glyphLookup ch with
  | none => (⟨t.cursor, t.chi + 1#16⟩, m)
  | some g => (⟨t.cursor + BitVec.ofNat 8 Config.glyphW, t.chi + 1#16⟩, m.writeRow (base + t.cursor.toNat) g)

/-- The character loop, left to right; it stops once `CURSOR > WIDTH - GLYPH_W` (44_text R151, R152). -/
def textRun (base : Nat) : List Byte → TextRegs → Memory → TextRegs × Memory
  | [], t, m => (t, m)
  | ch :: rest, t, m =>
    if t.cursor.toNat > Config.width - Config.glyphW then (t, m)
    else match textStep base ch t m with
      | (t1, m1) => textRun base rest t1 m1

/-- DRAW_TEXT with a Device: the range check before anything is written, the page cleared, the glyphs copied
(44_text R150, R151). -/
def drawText (line : Nat) (text : List Byte) (s : State) : State :=
  if line < Config.pages then
    let cleared := fillBytes (pageBase line) Config.width 0x00#8 (enter .drawText s)
    match textRun (pageBase line) text ⟨0#8, 0#16⟩ cleared.fb with
    | (t, m) => complete (forgetText (withText t (withFb m cleared)))
  else raise .rangeErr 0#8 s

/-- DRAW_TEXT (44_text R150). -/
def execDrawText (line : Half) (text : List Byte) (s : State) : Host.Outcome State Fault Refusal :=
  .next (guardDevice (drawText (unsigned line) text) s)

end Sys2Proof.Machine
end

