-- ==== Sys2Proof/Machine/Dispatch.lean ====
section
/-! DEFINITION. One arm per constructor of `Instr`. -/

namespace Sys2Proof.Machine

def exec (i : Instr) (s : State) : Host.Outcome State Fault Refusal :=
  match i with
  | .init busId address => Sys2Proof.Machine.execInit busId address s
  | .clear fill => Sys2Proof.Machine.execClear fill s
  | .setPoint x y on => Sys2Proof.Machine.execSetPoint x y on s
  | .drawLine x0 y0 x1 y1 => Sys2Proof.Machine.execDrawLine x0 y0 x1 y1 s
  | .drawText line text => Sys2Proof.Machine.execDrawText line text s
  | .refresh => Sys2Proof.Machine.execRefresh s
  | .release => Sys2Proof.Machine.execRelease s
  | .writeCmd byte => Sys2Proof.Machine.execWriteCmd byte s
  | .writeData bytes => Sys2Proof.Machine.execWriteData bytes s

end Sys2Proof.Machine
end

