-- ==== Sys2Proof/Machine/Port.lean ====
section
/-! DEFINITION. What the block does with one input of the host: a packet accepted and executed to its response
(30_encoding R81), or a reset (70_reset_and_hazards R200, R202). `Step.lean` only calls it. -/

namespace Sys2Proof.Machine

/-- Whether the block is between operations, where alone the command port accepts (30_encoding R81 step 1). -/
def State.ready (s : State) : Bool := decide (s.seq = .idle) && !s.busy

/-- A packet, accepted: the legality check on what the operand registers hold, then the operation
(30_encoding R81, R87, 60_exceptions R174). -/
def runPacket (h : HeaderWord) (payload : List Byte) (s : State) : Host.Outcome State Fault Refusal :=
  let s1 := accept h payload s
  match decode s1.latched with
  | .ok i => exec i s1
  | .error _ => .next (raise .illegalOp 0#8 s1)

/-- A reset input while no operation runs: the reset state; what lies outside the block is kept (log 17). -/
def resetBlock (s : State) : State :=
  { State.reset with
    host := s.host, answers := s.answers, answerDraws := s.answerDraws, allocs := s.allocs, draws := s.draws }

/-- One input of the host, taken from the front of what waits (log 2): without one the block stays as it is. A state from
the middle of an operation has no step (log 16). -/
def serveHost (s : State) : Host.Outcome State Fault Refusal :=
  match s.host with
  | [] => if s.ready then .next s else .fault .midOperation
  | .packet h payload :: rest =>
    if s.ready then runPacket h payload (withHost rest s) else .fault .midOperation
  | .reset :: rest => if s.ready then .next (resetBlock (withHost rest s)) else .fault .resetWhileBusy

/-- The host offers the packet first, and the block is ready for it. -/
def offerPacket (s : State) (p : Packet) : State :=
  { s with host := .packet p.header.toWord p.payload :: s.host, seq := .idle, busy := false }

end Sys2Proof.Machine
end

