-- ==== Sys2Proof/Machine/Step.lean ====
section
/-! DEFINITION. One step of the machine: the block serves one input of the host, an operation from its packet to its response
(10_state R24, log 1). -/

namespace Sys2Proof.Machine

/-- One step. -/
def step (s : State) : Host.Outcome State Fault Refusal := serveHost s

/-- The state in which the next step accepts and runs the instruction of a table word: the host offers its packet first
(log 2, log 22). -/
def State.withFetchWord (s : State) (nbits w : Nat) : State := offerPacket s (tablePacket nbits w)

end Sys2Proof.Machine
end

