-- ==== Sys2Proof/Safety.lean ====
section
/-! DEFINITION. The terms statements use: the invariant of the machine, how an operation answers, what a step leaves unchanged,
and the spec's own functions of an operation's inputs (the line path on unbounded integers, the text row, the frames of a
refresh), written apart from the meanings. -/

namespace Sys2Proof.Safety

open Sys2Proof.Machine

/-! ## The invariant -/

/-- A frame of 30_encoding R88: one command byte, or at most 65535 data bytes, behind its control byte. -/
def IsFrame (bytes : List Byte) : Prop :=
  (∃ b, bytes = commandFrame b) ∨ ∃ bs, bs.length ≤ Config.maxPayload ∧ bytes = dataFrame bs

/-- What holds between operations. -/
structure Inv (s : State) : Prop where
  /-- The framebuffer is in its canonical form, every listed byte inside 0..2047 (20_memory R50, R56). -/
  memory : s.fb.wf
  /-- No operation runs (10_state R24). -/
  idle : s.seq = .idle
  /-- `SEQ` = `IDLE` exactly when `STATUS.BUSY` = 0 (10_state R24, 60_exceptions R176). -/
  notBusy : s.busy = false
  /-- `LAST_INFO` is 0 but for `BUS_ERR` (10_state R26, 30_encoding R85). -/
  info : s.lastResult ≠ .busErr → s.lastInfo = 0
  /-- `INIT_WARN` speaks of the Device that exists (41_init R120, R127). -/
  warn : s.initWarn = true → s.devValid = true
  /-- Every transaction ever sent is a frame (20_memory R52). -/
  framed : ∀ x ∈ s.trace, IsFrame x.bytes
  /-- The last response says what `LAST_RESULT` and `LAST_INFO` say (30_encoding R81, R85). -/
  last : ∀ r, s.responses.getLast? = some r → r = responseWord s.lastResult s.lastInfo

/-! ## How an operation answers, and what it leaves unchanged -/

/-- From `s` to `t` one operation has ended with this result (30_encoding R81 step 4). -/
structure Answered (code : ResultCode) (info : Byte) (s t : State) : Prop where
  result : t.lastResult = code
  information : t.lastInfo = info
  responses : t.responses = s.responses ++ [responseWord code info]
  busy : t.busy = false
  seq : t.seq = .idle

/-- `DEV_VALID`, `BUS_ID`, `DEV_ADDR` and `INIT_WARN` are unchanged. -/
def SameDevice (s t : State) : Prop :=
  t.devValid = s.devValid ∧ t.busId = s.busId ∧ t.devAddr = s.devAddr ∧ t.initWarn = s.initWarn

/-- The operand registers are unchanged. -/
def SameOperands (s t : State) : Prop :=
  t.opc = s.opc ∧ t.a = s.a ∧ t.b = s.b ∧ t.c = s.c ∧ t.d = s.d ∧ t.pay = s.pay

/-- Nothing was sent and nothing was answered: the trace and the transport's coming answers are unchanged. -/
def SameBus (s t : State) : Prop :=
  t.trace = s.trace ∧ t.answers = s.answers ∧ t.answerDraws = s.answerDraws

/-- What waits at the host, and the allocator's coming answers, are unchanged. -/
def SameHost (s t : State) : Prop := t.host = s.host ∧ t.allocs = s.allocs

/-- The working registers of the sequencers are unchanged. -/
def SameWork (s t : State) : Prop :=
  t.line = s.line ∧ t.text = s.text ∧ t.scan = s.scan ∧ t.initIdx = s.initIdx ∧ t.fillIdx = s.fillIdx

/-- Every byte of the framebuffer reads as before. -/
def SameMemory (s t : State) : Prop := ∀ addr, t.fb.read addr = s.fb.read addr

/-- Every byte of the framebuffer outside the `n` bytes from `base` on reads as before. -/
def SameMemoryOutside (base n : Nat) (s t : State) : Prop :=
  ∀ addr, (addr < base ∨ base + n ≤ addr) → t.fb.read addr = s.fb.read addr

/-! ## Transactions -/

/-- The trace entries of consecutive frames to one device, the first of them answered `answer k`, the next `answer (k+1)`. -/
def issued (bus : Byte) (addr : BitVec 7) (answer : Nat → Answer) : Nat → List (List Byte) → List Transaction
  | _, [] => []
  | k, f :: fs => ⟨bus, addr, f, answer k⟩ :: issued bus addr answer (k + 1) fs

/-- The frames of a whole REFRESH in order: for each page the three commands and the row (45_refresh R160, R161). -/
def refreshFrames (m : Memory) : List (List Byte) :=
  (List.range 16).flatMap fun p =>
    [[Config.ctrlCmd, Config.encPage (BitVec.ofNat 4 p)],
     [Config.ctrlCmd, Config.encColLo Config.colOffset],
     [Config.ctrlCmd, Config.encColHi Config.colOffset],
     Config.ctrlData :: (List.range 128).map fun i => m.read (128 * p + i)]

/-! ## The line path on unbounded integers (43_line R141) -/

/-- The quantities of the algorithm, as integers. -/
structure LineState where
  cx : Int
  cy : Int
  ex : Int
  ey : Int
  dx : Int
  dy : Int
  sx : Int
  sy : Int
  err : Int
deriving DecidableEq, Repr

/-- The quantities before the first iteration. -/
def LineState.start (x0 y0 x1 y1 : Int) : LineState :=
  { cx := x0, cy := y0, ex := x1, ey := y1, dx := |x1 - x0|, dy := |y1 - y0|
    sx := if x0 < x1 then 1 else -1, sy := if y0 < y1 then 1 else -1, err := |x1 - x0| - |y1 - y0| }

/-- Whether the current point is the end point. -/
def LineState.done (l : LineState) : Bool := decide (l.cx = l.ex ∧ l.cy = l.ey)

/-- One move: both tests on the `e2 = 2 × err` from before either step. -/
def LineState.move (l : LineState) : LineState :=
  let xStep : Bool := decide (2 * l.err > -l.dy)
  let yStep : Bool := decide (2 * l.err < l.dx)
  { l with
    cx := if xStep then l.cx + l.sx else l.cx
    cy := if yStep then l.cy + l.sy else l.cy
    err := l.err - (if xStep then l.dy else 0) + (if yStep then l.dx else 0) }

/-- The points visited in at most `n` iterations, in order. -/
def LineState.visit : Nat → LineState → List (Int × Int)
  | 0, _ => []
  | n + 1, l => (l.cx, l.cy) :: if l.done then [] else LineState.visit n l.move

/-- How many points a line has: `max(DX, DY) + 1` (43_line R144). -/
def lineLength (x0 y0 x1 y1 : Int) : Nat := max (x1 - x0).natAbs (y1 - y0).natAbs + 1

/-- The path of a line: the points the loop visits (43_line R146). -/
def linePath (x0 y0 x1 y1 : Int) : List (Int × Int) :=
  LineState.visit (lineLength x0 y0 x1 y1) (LineState.start x0 y0 x1 y1)

/-! ## The row of a text (44_text R150 to R153) -/

/-- The supported characters of a text, at most 21 of them, as their glyphs one after the other. -/
def textGlyphs (text : List Byte) : List Byte := ((text.filterMap glyphLookup).take 21).flatten

/-- Byte `i` of the page after DRAW_TEXT: a glyph column, or 0x00 where no glyph lands. -/
def textByte (text : List Byte) (i : Nat) : Byte := (textGlyphs text).getD i 0

/-! ## What a host can observe (10_state R34, 92 D31) -/

/-- Two states a host cannot tell apart: equal in everything of 10_state R34 and in what will come from outside; the
Device's identifier, address and framebuffer only where there is a Device. The operand and working registers, and the counter
of the free values, may differ. -/
structure SameView (s t : State) : Prop where
  devValid : t.devValid = s.devValid
  busId : s.devValid = true → t.busId = s.busId
  devAddr : s.devValid = true → t.devAddr = s.devAddr
  memory : s.devValid = true → ∀ addr, addr < Config.fbBytes → t.fb.read addr = s.fb.read addr
  status : t.status = s.status
  seq : t.seq = s.seq
  trace : t.trace = s.trace
  responses : t.responses = s.responses
  host : t.host = s.host
  answers : t.answers = s.answers
  answerDraws : t.answerDraws = s.answerDraws

end Sys2Proof.Safety
end

