-- ==== Sys2Proof/Certificates/Slice0/Obligations.lean ====
section
/-! DEFINITION. The statements about the model, from the spec's numbered rules. -/

section

open Sys2Proof Sys2Proof.Machine Sys2Proof.Safety

/-! ## Reset, the ports, the status and response words -/

/-- 70 R200: the reset values the spec states. -/
def Obligations.ResetStateOfTheSpec : Prop :=
  State.reset.devValid = false ∧ State.reset.busy = false ∧ State.reset.initWarn = false ∧
  State.reset.lastResult = .ok ∧ State.reset.lastInfo = 0 ∧ State.reset.status = 0x0000 ∧
  State.reset.seq = .idle ∧ State.reset.trace = []

/-- 10 R26: the fields of `STATUS`. -/
def Obligations.StatusWordLayout : Prop :=
  ∀ s : State,
    s.status.getLsbD 0 = s.busy ∧ s.status.getLsbD 1 = s.devValid ∧ s.status.getLsbD 2 = s.initWarn ∧
    s.status.getLsbD 3 = false ∧ s.status.extractLsb' 4 4 = s.lastResult.number ∧
    s.status.extractLsb' 8 8 = s.lastInfo

/-- 30 R85, 60 R171: the response word and the numbers of the codes. -/
def Obligations.ResponseWordLayout : Prop :=
  (∀ code info, (responseWord code info).extractLsb' 0 4 = code.number ∧
    (responseWord code info).extractLsb' 4 4 = 0 ∧ (responseWord code info).extractLsb' 8 8 = info ∧
    code.number.toNat ≤ 5) ∧
  ResultCode.ok.number = 0 ∧ ResultCode.rangeErr.number = 1 ∧ ResultCode.busErr.number = 2 ∧
  ResultCode.allocFail.number = 3 ∧ ResultCode.noDevice.number = 4 ∧ ResultCode.illegalOp.number = 5

/-- 30 R81 step 2: acceptance latches the header and the payload and sets `BUSY`, which shows in `STATUS` bit 0 alone. -/
def Obligations.AcceptanceLatchesThePacket : Prop :=
  ∀ (h : HeaderWord) (payload : List Byte) (s : State),
    (accept h payload s).opc = h.extractLsb' 64 8 ∧ (accept h payload s).a = h.extractLsb' 48 16 ∧
    (accept h payload s).b = h.extractLsb' 32 16 ∧ (accept h payload s).c = h.extractLsb' 16 16 ∧
    (accept h payload s).d = h.extractLsb' 0 16 ∧ (accept h payload s).pay = payload ∧
    (accept h payload s).status.getLsbD 0 = true ∧
    (accept h payload s).status.extractLsb' 1 15 = s.status.extractLsb' 1 15 ∧
    (accept h payload s).responses = s.responses ∧
    SameDevice s (accept h payload s) ∧ SameMemory s (accept h payload s) ∧ SameBus s (accept h payload s) ∧
    SameWork s (accept h payload s) ∧ SameHost s (accept h payload s)

/-- 30 R81, R82: a step of a ready block runs the operation its packet decodes to, on the accepted state. -/
def Obligations.StepRunsTheDecodedPacket : Prop :=
  ∀ (s : State) (h : HeaderWord) (payload : List Byte) (rest : List HostInput) (i : Instr),
    s.seq = .idle → s.busy = false → s.host = .packet h payload :: rest →
    decode ⟨Header.ofWord h, payload⟩ = .ok i →
    step s = exec i (accept h payload (withHost rest s))

/-- 30 R87, R93: a packet no row of the opcode table accepts is answered `ILLEGAL_OP`; only `LAST_RESULT`, `LAST_INFO` and the
operand registers change. -/
def Obligations.IllegalPacketChangesNothing : Prop :=
  ∀ (s : State) (h : HeaderWord) (payload : List Byte) (rest : List HostInput),
    s.seq = .idle → s.busy = false → s.host = .packet h payload :: rest →
    (∀ r ∈ opcodeTable, r.accepts ⟨Header.ofWord h, payload⟩ = false) →
    ∃ t, step s = .next t ∧ Answered .illegalOp 0 s t ∧ SameDevice s t ∧ SameMemory s t ∧ SameBus s t ∧ SameWork s t ∧
      t.latched = ⟨Header.ofWord h, payload⟩ ∧ t.host = rest ∧ t.allocs = s.allocs

/-- 70 R202, 30 R81 step 1: a busy block has no step for a reset, and accepts no packet (the model's faults, log 16). -/
def Obligations.BusyBlockHasNoStep : Prop :=
  ∀ s : State, s.busy = true →
    (∀ rest, s.host = .reset :: rest → step s = .fault .resetWhileBusy) ∧
    (∀ h payload rest, s.host = .packet h payload :: rest → step s = .fault .midOperation)

/-- 70 R200: a reset input of a ready block gives the reset state (what lies outside the block is kept: log 17). -/
def Obligations.ResetInputGivesTheResetState : Prop :=
  ∀ (s : State) (rest : List HostInput),
    s.seq = .idle → s.busy = false → s.host = .reset :: rest →
    step s = .next { State.reset with
      host := rest, answers := s.answers, answerDraws := s.answerDraws, allocs := s.allocs, draws := s.draws }

/-- 30 R81: in a state between operations every packet, whatever its bits, gets exactly one response, which says what
`LAST_RESULT` and `LAST_INFO` say; the block is idle again. Assumed (20_memory R61, 92 D30): the transport always answers
(log 3, PRESUMED, unsafe). The model's choice: a block to which nothing is offered steps to itself (log 2); the operand
registers keep the packet after the operation (log 10, DEDUCED). -/
def Obligations.EveryPacketGetsOneResponse : Prop :=
  ∀ s : State, Inv s →
    (∃ t, step s = .next t) ∧
    ∀ h payload rest, s.host = .packet h payload :: rest →
      ∃ t, step s = .next t ∧ t.responses = s.responses ++ [responseWord t.lastResult t.lastInfo] ∧
        t.host = rest ∧ t.busy = false ∧ t.seq = .idle ∧ t.latched = ⟨Header.ofWord h, payload⟩

/-! ## Encoding -/

/-- 30 R82, R84, R90: headers written out from the spec's encodings. -/
def Obligations.SampleHeadersDecode : Prop :=
  decode ⟨Header.ofWord 0x010000003C00000000, []⟩ = .ok (.init 0 0x3C) ∧
  decode ⟨Header.ofWord 0x020001000000000000, []⟩ = .ok (.clear true) ∧
  decode ⟨Header.ofWord 0x030003000A00010000, []⟩ = .ok (.setPoint 3 10 true) ∧
  decode ⟨Header.ofWord 0x04FFFE000300030003, []⟩ = .ok (.drawLine (-2) 3 3 3) ∧
  decode ⟨Header.ofWord 0x050000000200000000, [0x41, 0x42]⟩ = .ok (.drawText 0 [0x41, 0x42]) ∧
  decode ⟨Header.ofWord 0x060000000000000000, []⟩ = .ok .refresh ∧
  decode ⟨Header.ofWord 0x070000000000000000, []⟩ = .ok .release ∧
  decode ⟨Header.ofWord 0x0800AF000000000000, []⟩ = .ok (.writeCmd 0xAF) ∧
  decode ⟨Header.ofWord 0x090003000000000000, [0xFF, 0x00, 0x81]⟩ = .ok (.writeData [0xFF, 0x00, 0x81])

/-- 30 R84, R86: decoding the packet of a well-formed operation gives the operation back, from its fields, from its 72-bit
number and from its bytes. -/
def Obligations.DecodeEncodeRoundTrip : Prop :=
  ∀ i : Instr, i.wellFormed = true →
    decode (encode i) = .ok i ∧
    decode ⟨Header.ofWord (encode i).header.toWord, (encode i).payload⟩ = .ok i ∧
    decodeBytes (encode i).toBytes = .ok i

/-- 30 R87, R91: an operation has one packet only, so no bit of a legal packet is ignored. -/
def Obligations.EveryLegalPacketIsAnEncoding : Prop :=
  ∀ (p : Packet) (i : Instr), decode p = .ok i → encode i = p ∧ i.wellFormed = true

/-- 30 R93: the decoder accepts exactly the packets a row of the opcode table accepts, as that row's operation. -/
def Obligations.DecoderFollowsTheOpcodeTable : Prop :=
  ∀ p : Packet,
    (∀ i, decode p = .ok i → ∃ r ∈ opcodeTable, r.mnemonic = i.mnemonic ∧ r.accepts p = true) ∧
    (∀ r ∈ opcodeTable, r.accepts p = true → ∃ i, decode p = .ok i ∧ i.mnemonic = r.mnemonic)

/-! ## The device check -/

/-- 60 R174 step 2: without a Device every operation but INIT answers `NO_DEVICE` and changes nothing else. -/
def Obligations.NoDeviceIsReported : Prop :=
  ∀ (i : Instr) (s : State), s.devValid = false → i.mnemonic ≠ "INIT" →
    ∃ t, exec i s = .next t ∧ Answered .noDevice 0 s t ∧ SameDevice s t ∧ SameOperands s t ∧ SameMemory s t ∧
      SameBus s t ∧ SameWork s t ∧ SameHost s t

/-! ## INIT and RELEASE -/

/-- 41 R123: what the spec fixes of the power-up sequence. -/
def Obligations.PowerUpStepsShape : Prop :=
  initSteps.length = 14 ∧ (∀ st ∈ initSteps, st.length = 1 ∨ st.length = 2) ∧
  (∀ k st, (k = 4 ∨ k = 6 ∨ k = 13) → initSteps[k - 1]? = some st → st.length = 2) ∧
  initBytes = initSteps.flatten ∧ 17 ≤ initBytes.length ∧ initBytes.length ≤ 28

/-- 41 R120, R121: INIT answers `OK` whatever the transport answers, makes the Device, zeroes the framebuffer and sends every
byte of the sequence in order; `INIT_WARN` says whether any answer was `Err`. Assumed
(20_memory R61, 92 D30): the transport always answers (log 3, PRESUMED, unsafe). The model's choice: the line, text and refresh
registers (log 8) and the operand registers (log 10) are kept. -/
def Obligations.InitCreatesTheDevice : Prop :=
  ∀ (busId : Byte) (address : BitVec 7) (s : State),
    ∃ t, exec (.init busId address) s = .next t ∧ Answered .ok 0 s t ∧
      t.devValid = true ∧ t.busId = busId ∧ t.devAddr = address ∧
      (∀ addr, addr < 2048 → t.fb.read addr = 0x00) ∧ SameMemoryOutside 0 2048 s t ∧
      t.trace = s.trace ++ issued busId address s.nextAnswer 0 (initBytes.map fun b => [Config.ctrlCmd, b]) ∧
      (t.initWarn = true ↔ ∃ k e, k < initBytes.length ∧ s.nextAnswer k = .err e) ∧
      (∀ k, t.nextAnswer k = s.nextAnswer (initBytes.length + k)) ∧
      SameOperands s t ∧ SameHost s t ∧ t.line = s.line ∧ t.text = s.text ∧ t.scan = s.scan

/-- 41 R125: INIT with a Device behaves as RELEASE and then INIT. Assumed (20_memory R61, 92 D30): the transport always answers
(log 3, PRESUMED, unsafe). -/
def Obligations.ReinitIsReleaseThenInit : Prop :=
  ∀ (busId : Byte) (address : BitVec 7) (s u : State), s.devValid = true → exec .release s = .next u →
    ∃ t v, exec (.init busId address) s = .next t ∧ exec (.init busId address) u = .next v ∧
      v.devValid = t.devValid ∧ v.busId = t.busId ∧ v.devAddr = t.devAddr ∧ v.status = t.status ∧ v.trace = t.trace ∧
      ∀ addr, addr < 2048 → v.fb.read addr = t.fb.read addr

/-- 41 R122: with `ALLOC_CAN_FAIL` true, a failed allocation answers `ALLOC_FAIL` and leaves no Device, no transaction sent;
with the parameter as it is, INIT never answers so. The model's choice: the working registers (log 8) and the operand registers
(log 10) are kept, and `ALLOC_CAN_FAIL` is an argument of `initDevice` (log 15). -/
def Obligations.FailedAllocationLeavesNoDevice : Prop :=
  (∀ (busId : Byte) (address : BitVec 7) (s : State) (rest : List AllocAnswer), s.allocs = .fail :: rest →
    Answered .allocFail 0 s (initDevice true busId address s) ∧
    (initDevice true busId address s).devValid = false ∧ (initDevice true busId address s).initWarn = false ∧
    (initDevice true busId address s).allocs = rest ∧ (initDevice true busId address s).host = s.host ∧
    SameBus s (initDevice true busId address s) ∧ SameOperands s (initDevice true busId address s) ∧
    SameWork s (initDevice true busId address s)) ∧
  ∀ (busId : Byte) (address : BitVec 7) (s t : State), exec (.init busId address) s = .next t → t.lastResult ≠ .allocFail

/-- 41 R127: RELEASE with a Device. The model's choice, not R127's: the working registers (log 8, DESIGN CHOICE) and the operand
registers (log 10, DEDUCED) are kept. -/
def Obligations.ReleaseDropsTheDevice : Prop :=
  ∀ s : State, s.devValid = true →
    ∃ t, exec .release s = .next t ∧ Answered .ok 0 s t ∧ t.devValid = false ∧ t.initWarn = false ∧
      SameMemoryOutside 0 2048 s t ∧ SameBus s t ∧ SameOperands s t ∧ SameWork s t ∧ SameHost s t

/-! ## CLEAR and SET_POINT -/

/-- 42 R130, R131: CLEAR, regardless of prior content. The model's choice: the line, text, refresh and init registers (log 8) and
the operand registers (log 10) are kept. -/
def Obligations.ClearFillsTheFramebuffer : Prop :=
  ∀ (fill : Bool) (s : State), s.devValid = true →
    ∃ t, exec (.clear fill) s = .next t ∧ Answered .ok 0 s t ∧
      (∀ addr, addr < 2048 → t.fb.read addr = if fill then 0xFF else 0x00) ∧ SameMemoryOutside 0 2048 s t ∧
      SameDevice s t ∧ SameBus s t ∧ SameOperands s t ∧ SameHost s t ∧
      t.line = s.line ∧ t.text = s.text ∧ t.scan = s.scan ∧ t.initIdx = s.initIdx

/-- 00 R16, 20 R50: the pixels in bounds and the bits of the framebuffer correspond one to one. -/
def Obligations.PixelsAndBitsCorrespond : Prop :=
  (∀ x y, inBounds x y = true → pixelIndex x y < 2048) ∧
  (∀ x y x' y', inBounds x y = true → inBounds x' y' = true → pixelIndex x y = pixelIndex x' y' →
    y.toNat % 8 = y'.toNat % 8 → x = x' ∧ y = y') ∧
  ∀ addr bit, addr < 2048 → bit < 8 → ∃ x y, inBounds x y = true ∧ pixelIndex x y = addr ∧ y.toNat % 8 = bit

/-- 42 R132: SET_POINT in bounds writes one byte, and in it the one bit; every other pixel keeps its value. The model's
choice: the working registers (log 8) and the operand registers (log 10) are kept. -/
def Obligations.SetPointWritesOneBit : Prop :=
  ∀ (x y : Half) (on : Bool) (s : State), s.devValid = true → inBounds x.toInt y.toInt = true →
    ∃ t, exec (.setPoint x y on) s = .next t ∧ Answered .ok 0 s t ∧
      t.fb.read (y.toInt.toNat / 8 * 128 + x.toInt.toNat) =
        (if on then s.fb.read (y.toInt.toNat / 8 * 128 + x.toInt.toNat) ||| (1#8 <<< (y.toInt.toNat % 8))
         else s.fb.read (y.toInt.toNat / 8 * 128 + x.toInt.toNat) &&& ~~~(1#8 <<< (y.toInt.toNat % 8))) ∧
      (∀ x' y', inBounds x' y' = true →
        t.fb.pixel x' y' = if x' = x.toInt ∧ y' = y.toInt then on else s.fb.pixel x' y') ∧
      (∀ addr, addr ≠ pixelIndex x.toInt y.toInt → t.fb.read addr = s.fb.read addr) ∧
      SameDevice s t ∧ SameBus s t ∧ SameOperands s t ∧ SameWork s t ∧ SameHost s t

/-- 42 R132, R133: SET_POINT out of bounds answers `RANGE_ERR` and changes nothing else. -/
def Obligations.SetPointOutOfBoundsChangesNothing : Prop :=
  ∀ (x y : Half) (on : Bool) (s : State), s.devValid = true →
    (x.toInt < 0 ∨ 128 ≤ x.toInt ∨ y.toInt < 0 ∨ 128 ≤ y.toInt) →
    ∃ t, exec (.setPoint x y on) s = .next t ∧ Answered .rangeErr 0 s t ∧ SameMemory s t ∧ SameDevice s t ∧
      SameBus s t ∧ SameOperands s t ∧ SameWork s t ∧ SameHost s t

/-- 42 R134: the document's two properties of SET_POINT. -/
def Obligations.SetPointReadsBack : Prop :=
  (∀ (x y : Half) (s : State), s.devValid = true → inBounds x.toInt y.toInt = true →
    ∃ t u, exec (.setPoint x y true) s = .next t ∧ exec (.setPoint x y false) t = .next u ∧
      t.fb.pixel x.toInt y.toInt = true ∧ u.fb.pixel x.toInt y.toInt = false ∧
      ∀ bit, bit ≠ y.toInt.toNat % 8 →
        (t.fb.read (pixelIndex x.toInt y.toInt)).getLsbD bit = (s.fb.read (pixelIndex x.toInt y.toInt)).getLsbD bit ∧
        (u.fb.read (pixelIndex x.toInt y.toInt)).getLsbD bit = (s.fb.read (pixelIndex x.toInt y.toInt)).getLsbD bit) ∧
  ∀ (x y : Half) (on : Bool) (s : State), s.devValid = true → inBounds x.toInt y.toInt = false →
    ∃ t, exec (.setPoint x y on) s = .next t ∧ t.lastResult = .rangeErr ∧ ∀ addr, t.fb.read addr = s.fb.read addr

/-! ## DRAW_LINE -/

/-- 43 R141, R146: DRAW_LINE lights the points of the path that are in bounds, changes nothing else, and cannot fail. The
model's choice: the text, refresh, init and fill registers (log 8) and the operand registers (log 10) are kept. -/
def Obligations.DrawLineLightsThePath : Prop :=
  ∀ (x0 y0 x1 y1 : Half) (s : State), s.devValid = true →
    ∃ t, exec (.drawLine x0 y0 x1 y1) s = .next t ∧ Answered .ok 0 s t ∧
      (∀ x y, inBounds x y = true →
        t.fb.pixel x y = (s.fb.pixel x y || decide ((x, y) ∈ linePath x0.toInt y0.toInt x1.toInt y1.toInt))) ∧
      (∀ addr, (∀ p ∈ linePath x0.toInt y0.toInt x1.toInt y1.toInt, inBounds p.1 p.2 = true → pixelIndex p.1 p.2 ≠ addr) →
        t.fb.read addr = s.fb.read addr) ∧
      SameDevice s t ∧ SameBus s t ∧ SameOperands s t ∧ SameHost s t ∧
      t.text = s.text ∧ t.scan = s.scan ∧ t.initIdx = s.initIdx ∧ t.fillIdx = s.fillIdx

/-- 43 R144: the loop stops by itself after exactly `max(DX, DY) + 1` iterations, the last one at the end point; along the
longer axis every move is one pixel, along the other none or one, always towards the end point. The loop on the working
registers takes that number of iterations too, at most 65536, and ends at the end point. -/
def Obligations.LineTakesMaxPlusOneIterations : Prop :=
  (∀ (x0 y0 x1 y1 : Int) (n : Nat), lineLength x0 y0 x1 y1 ≤ n →
    LineState.visit n (LineState.start x0 y0 x1 y1) = linePath x0 y0 x1 y1) ∧
  (∀ x0 y0 x1 y1 : Int,
    (linePath x0 y0 x1 y1).length = max (x1 - x0).natAbs (y1 - y0).natAbs + 1 ∧
    (linePath x0 y0 x1 y1)[0]? = some (x0, y0) ∧
    (linePath x0 y0 x1 y1).getLast? = some (x1, y1)) ∧
  (∀ (x0 y0 x1 y1 : Int) (k : Nat) (p q : Int × Int),
    (linePath x0 y0 x1 y1)[k]? = some p → (linePath x0 y0 x1 y1)[k + 1]? = some q →
    (q.1 = p.1 ∨ q.1 = p.1 + (if x0 < x1 then 1 else -1)) ∧
    (q.2 = p.2 ∨ q.2 = p.2 + (if y0 < y1 then 1 else -1)) ∧
    ((y1 - y0).natAbs ≤ (x1 - x0).natAbs → q.1 ≠ p.1) ∧
    ((x1 - x0).natAbs ≤ (y1 - y0).natAbs → q.2 ≠ p.2)) ∧
  ∀ (x0 y0 x1 y1 : Half) (e2 : BitVec 19) (m : Memory) (n : Nat),
    (LineRegs.start x0 y0 x1 y1 e2).iterations = lineLength x0.toInt y0.toInt x1.toInt y1.toInt ∧
    (LineRegs.start x0 y0 x1 y1 e2).iterations ≤ 65536 ∧
    ((LineRegs.start x0 y0 x1 y1 e2).iterations ≤ n →
      lineRun n (LineRegs.start x0 y0 x1 y1 e2) m =
        lineRun (LineRegs.start x0 y0 x1 y1 e2).iterations (LineRegs.start x0 y0 x1 y1 e2) m) ∧
    (lineRun (LineRegs.start x0 y0 x1 y1 e2).iterations (LineRegs.start x0 y0 x1 y1 e2) m).1.atEnd = true

/-- 43 R143: in every iteration the working registers hold the exact integers of the algorithm, within the stated bounds. -/
def Obligations.LineRegistersHoldTheIntegers : Prop :=
  ∀ (x0 y0 x1 y1 : Half) (e2 : BitVec 19) (k : Nat), k < lineLength x0.toInt y0.toInt x1.toInt y1.toInt →
    ∃ (r : LineRegs) (l : LineState),
      r = (LineRegs.move^[k]) (LineRegs.start x0 y0 x1 y1 e2) ∧
      l = (LineState.move^[k]) (LineState.start x0.toInt y0.toInt x1.toInt y1.toInt) ∧
      r.cx.toInt = l.cx ∧ r.cy.toInt = l.cy ∧ (r.dx.toNat : Int) = l.dx ∧ (r.dy.toNat : Int) = l.dy ∧
      r.err.toInt = l.err ∧ r.double.e2.toInt = 2 * l.err ∧
      -3 * l.dy ≤ 2 * l.err ∧ 2 * l.err ≤ 3 * l.dx ∧ |l.err| < 98304 ∧ |2 * l.err| < 196608 ∧
      min x0.toInt x1.toInt ≤ l.cx ∧ l.cx ≤ max x0.toInt x1.toInt ∧
      min y0.toInt y1.toInt ≤ l.cy ∧ l.cy ≤ max y0.toInt y1.toInt

/-- 43 R145: rows, columns and exact diagonals (a single point among them). -/
def Obligations.AxisAlignedAndDiagonalLines : Prop :=
  (∀ x0 x1 y : Int, linePath x0 y x1 y =
    (List.range ((x1 - x0).natAbs + 1)).map fun k : Nat => (x0 + (if x0 < x1 then (k : Int) else -k), y)) ∧
  (∀ x y0 y1 : Int, linePath x y0 x y1 =
    (List.range ((y1 - y0).natAbs + 1)).map fun k : Nat => (x, y0 + (if y0 < y1 then (k : Int) else -k))) ∧
  ∀ x0 y0 x1 y1 : Int, (x1 - x0).natAbs = (y1 - y0).natAbs → linePath x0 y0 x1 y1 =
    (List.range ((x1 - x0).natAbs + 1)).map fun k : Nat =>
      (x0 + (if x0 < x1 then (k : Int) else -k), y0 + (if y0 < y1 then (k : Int) else -k))

/-- 43 R148: the document's two examples, on any framebuffer. -/
def Obligations.DrawLineExamples : Prop :=
  ∀ s : State, s.devValid = true →
    (∃ t, exec (.drawLine 0 0 10 0) s = .next t ∧ ∀ x y, inBounds x y = true →
      t.fb.pixel x y = (s.fb.pixel x y || (decide (x ≤ 10) && decide (y = 0)))) ∧
    (∃ t, exec (.drawLine 0 0 5 5) s = .next t ∧ ∀ x y, inBounds x y = true →
      t.fb.pixel x y = (s.fb.pixel x y || (decide (x ≤ 5) && decide (y = x)))) ∧
    linePath 0 0 5 5 = [(0, 0), (1, 1), (2, 2), (3, 3), (4, 4), (5, 5)]

/-- 43 R147: a line and its reverse light different pixels (an empty framebuffer). -/
def Obligations.LineDirectionMatters : Prop :=
  linePath 0 0 2 1 = [(0, 0), (1, 0), (2, 1)] ∧ linePath 2 1 0 0 = [(2, 1), (1, 1), (0, 0)] ∧
  ∀ s : State, s.devValid = true → s.fb = [] →
    (∃ t, exec (.drawLine 0 0 2 1) s = .next t ∧ t.fb = [(0, 0x01), (1, 0x01), (2, 0x02)]) ∧
    ∃ t, exec (.drawLine 2 1 0 0) s = .next t ∧ t.fb = [(0, 0x01), (1, 0x02), (2, 0x02)]

/-! ## DRAW_TEXT -/

/-- 10 R31, R30: the supported characters, each with six column bytes. -/
def Obligations.SupportedCharactersHaveGlyphs : Prop :=
  ∀ ch : Byte,
    ((glyphLookup ch).isSome = true ↔ ch.toNat = 0x20 ∨ ch.toNat = 0x21 ∨ (0x30 ≤ ch.toNat ∧ ch.toNat ≤ 0x39) ∨
      (0x41 ≤ ch.toNat ∧ ch.toNat ≤ 0x5A)) ∧
    ∀ g, glyphLookup ch = some g → g.length = 6

/-- 44 R150 to R153: the page holds the glyphs of the first 21 supported characters side by side and is 0x00 elsewhere; no
other page changes. The model's choice: the line, refresh and init registers (log 8) and the operand registers (log 10) are
kept. -/
def Obligations.DrawTextWritesThePage : Prop :=
  ∀ (line : Half) (text : List Byte) (s : State), s.devValid = true → line.toNat < 16 →
    ∃ t, exec (.drawText line text) s = .next t ∧ Answered .ok 0 s t ∧
      (∀ i, i < 128 → t.fb.read (128 * line.toNat + i) = textByte text i) ∧
      SameMemoryOutside (128 * line.toNat) 128 s t ∧
      SameDevice s t ∧ SameBus s t ∧ SameOperands s t ∧ SameHost s t ∧
      t.line = s.line ∧ t.scan = s.scan ∧ t.initIdx = s.initIdx

/-- 44 R150, R153: a line index out of range, unsigned, answers `RANGE_ERR`; no page is cleared. -/
def Obligations.DrawTextOutOfRangeChangesNothing : Prop :=
  ∀ (line : Half) (text : List Byte) (s : State), s.devValid = true → 16 ≤ line.toNat →
    ∃ t, exec (.drawText line text) s = .next t ∧ Answered .rangeErr 0 s t ∧ SameMemory s t ∧ SameDevice s t ∧
      SameBus s t ∧ SameOperands s t ∧ SameWork s t ∧ SameHost s t

/-- 44 R155: the document's property of DRAW_TEXT, for whatever glyphs. -/
def Obligations.DrawTextTwoGlyphs : Prop :=
  (∀ s : State, s.devValid = true →
    ∃ t a b, exec (.drawText 0 [0x41, 0x42]) s = .next t ∧ glyphLookup 0x41 = some a ∧ glyphLookup 0x42 = some b ∧
      t.fb.readRow 0 6 = a ∧ t.fb.readRow 6 6 = b ∧ (∀ addr, 12 ≤ addr → addr < 128 → t.fb.read addr = 0x00) ∧
      ∀ addr, 128 ≤ addr → t.fb.read addr = s.fb.read addr) ∧
  ∀ (line : Half) (text : List Byte) (s : State),
    ∃ t u, exec (.drawText line text) s = .next t ∧
      exec (.drawText line (text.filter fun ch => (glyphLookup ch).isSome)) s = .next u ∧
      ∀ addr, t.fb.read addr = u.fb.read addr

/-! ## REFRESH, WRITE_CMD, WRITE_DATA -/

/-- 45 R160, R161, R163: with every answer `Ok`, REFRESH sends the 64 frames in order and answers `OK`. The model's
choice: the line, text, init and fill registers (log 8) and the operand registers (log 10) are kept. -/
def Obligations.RefreshSendsTheWholeFrame : Prop :=
  ∀ s : State, s.devValid = true → (∀ k, k < 64 → s.nextAnswer k = .ok) →
    ∃ t, exec .refresh s = .next t ∧ Answered .ok 0 s t ∧
      t.trace = s.trace ++ issued s.busId s.devAddr s.nextAnswer 0 (refreshFrames s.fb) ∧
      (refreshFrames s.fb).length = 64 ∧
      (∀ k, t.nextAnswer k = s.nextAnswer (64 + k)) ∧
      SameMemory s t ∧ SameDevice s t ∧ SameOperands s t ∧ SameHost s t ∧
      t.line = s.line ∧ t.text = s.text ∧ t.initIdx = s.initIdx ∧ t.fillIdx = s.fillIdx

/-- 45 R164: the first `Err` ends REFRESH with `BUS_ERR(e)`; nothing more is sent, not even of the failing page: the
spec's decision D12 (log 19). The model's choice: the line, text, init and fill registers (log 8) and the operand registers
(log 10) are kept. -/
def Obligations.RefreshStopsAtTheFirstError : Prop :=
  ∀ (s : State) (n : Nat) (e : Byte), s.devValid = true → n < 64 → (∀ k, k < n → s.nextAnswer k = .ok) →
    s.nextAnswer n = .err e →
    ∃ t, exec .refresh s = .next t ∧ Answered .busErr e s t ∧
      t.trace = s.trace ++ issued s.busId s.devAddr s.nextAnswer 0 ((refreshFrames s.fb).take (n + 1)) ∧
      (∀ k, t.nextAnswer k = s.nextAnswer (n + 1 + k)) ∧
      SameMemory s t ∧ SameDevice s t ∧ SameOperands s t ∧ SameHost s t ∧
      t.line = s.line ∧ t.text = s.text ∧ t.initIdx = s.initIdx ∧ t.fillIdx = s.fillIdx

/-- 45 R166, R164: the document's property of REFRESH: one data transaction of 128 payload bytes a page, in ascending page order; a
failure in page `k` is returned, nothing is issued after it, no page above `k` is sent. That
nothing more of page `k` itself is issued is not R166's: it is R164 by the spec's decision D12 (log 19; 93 U17 flags it). -/
def Obligations.RefreshDataTransactions : Prop :=
  ∀ s : State, s.devValid = true →
    ((∀ k, k < 64 → s.nextAnswer k = .ok) →
      ∃ t new, exec .refresh s = .next t ∧ t.trace = s.trace ++ new ∧
        (new.filter fun x => decide (x.bytes.head? = some Config.ctrlData)).map (fun x => x.bytes) =
          (List.range 16).map fun p => Config.ctrlData :: s.fb.readRow (128 * p) 128) ∧
    ∀ (page phase : Nat) (e : Byte), page < 16 → phase < 4 → (∀ k, k < 4 * page + phase → s.nextAnswer k = .ok) →
      s.nextAnswer (4 * page + phase) = .err e →
      ∃ t new, exec .refresh s = .next t ∧ t.trace = s.trace ++ new ∧ t.lastResult = .busErr ∧ t.lastInfo = e ∧
        new.map (fun x => x.bytes) = (refreshFrames s.fb).take (4 * page + phase + 1) ∧
        (new.filter fun x => decide (x.bytes.head? = some Config.ctrlData)).map (fun x => x.bytes) =
          (List.range (page + phase / 3)).map fun p => Config.ctrlData :: s.fb.readRow (128 * p) 128

/-- 40 R110, R112: WRITE_CMD with a Device: exactly one command frame, its answer the result. Assumed
(20_memory R61, 92 D30): the transport always answers (log 3, PRESUMED, unsafe). The model's choice: the operand registers are
kept (log 10). -/
def Obligations.WriteCmdSendsOneFrame : Prop :=
  ∀ (byte : Byte) (s : State), s.devValid = true →
    ∃ t, exec (.writeCmd byte) s = .next t ∧
      t.trace = s.trace ++ [⟨s.busId, s.devAddr, [Config.ctrlCmd, byte], s.nextAnswer 0⟩] ∧
      (s.nextAnswer 0 = .ok → Answered .ok 0 s t) ∧ (∀ e, s.nextAnswer 0 = .err e → Answered .busErr e s t) ∧
      (∀ k, t.nextAnswer k = s.nextAnswer (k + 1)) ∧
      SameMemory s t ∧ SameDevice s t ∧ SameOperands s t ∧ SameWork s t ∧ SameHost s t

/-- 40 R111, R113: WRITE_DATA with a Device: exactly one data frame of the whole payload, its answer the result.
Assumed (20_memory R61, 92 D30): the transport always answers (log 3, PRESUMED, unsafe). The model's choice: the operand
registers are kept (log 10). -/
def Obligations.WriteDataSendsOneFrame : Prop :=
  ∀ (bytes : List Byte) (s : State), s.devValid = true →
    ∃ t, exec (.writeData bytes) s = .next t ∧
      t.trace = s.trace ++ [⟨s.busId, s.devAddr, Config.ctrlData :: bytes, s.nextAnswer 0⟩] ∧
      (s.nextAnswer 0 = .ok → Answered .ok 0 s t) ∧ (∀ e, s.nextAnswer 0 = .err e → Answered .busErr e s t) ∧
      (∀ k, t.nextAnswer k = s.nextAnswer (k + 1)) ∧
      SameMemory s t ∧ SameDevice s t ∧ SameOperands s t ∧ SameWork s t ∧ SameHost s t

/-! ## Rules over every operation -/

/-- 20 R52, R68: CLEAR, SET_POINT, DRAW_LINE, DRAW_TEXT and RELEASE never reach the bus. -/
def Obligations.DrawingNeverReachesTheBus : Prop :=
  ∀ (i : Instr) (s t : State), i.mnemonic ∈ ["CLEAR", "SET_POINT", "DRAW_LINE", "DRAW_TEXT", "RELEASE"] →
    exec i s = .next t → SameBus s t

/-- 10 R29, 20 R59: REFRESH, WRITE_CMD and WRITE_DATA never change the framebuffer. -/
def Obligations.SendingLeavesTheFramebuffer : Prop :=
  ∀ (i : Instr) (s t : State), i.mnemonic ∈ ["REFRESH", "WRITE_CMD", "WRITE_DATA"] → exec i s = .next t → t.fb = s.fb

/-- 20 R52, R66: an operation only adds frames to the bus trace, to the Device's bus and address. -/
def Obligations.TraceGrowsByFrames : Prop :=
  ∀ (i : Instr) (s t : State), i.wellFormed = true → exec i s = .next t →
    ∃ new, t.trace = s.trace ++ new ∧ (∀ x ∈ new, IsFrame x.bytes) ∧
      (i.mnemonic ≠ "INIT" → ∀ x ∈ new, x.bus = s.busId ∧ x.addr = s.devAddr) ∧
      ∀ busId address, i = .init busId address → ∀ x ∈ new, x.bus = busId ∧ x.addr = address

/-- 10 R25, R26, 60 R176: only INIT and RELEASE change the device registers or `INIT_WARN`. -/
def Obligations.OnlyInitAndReleaseChangeTheDevice : Prop :=
  ∀ (i : Instr) (s t : State), i.mnemonic ≠ "INIT" → i.mnemonic ≠ "RELEASE" → exec i s = .next t → SameDevice s t

/-- 10 R21: no operation writes the operand registers, which acceptance alone writes. -/
def Obligations.OperationsKeepTheOperandRegisters : Prop :=
  ∀ (i : Instr) (s t : State), exec i s = .next t → SameOperands s t ∧ SameHost s t

/-! ## The invariant and what can be observed -/

/-- The invariant holds right after reset. -/
def Obligations.InvariantAtReset : Prop := Inv State.reset

/-- Every step keeps the invariant. -/
def Obligations.StepKeepsTheInvariant : Prop := ∀ s t : State, Inv s → step s = .next t → Inv t

/-- 10 R23, 70 R201: what the spec leaves unspecified is never observed: two states a host cannot tell apart step to states it
cannot tell apart. -/
def Obligations.UnspecifiedValuesAreNeverObserved : Prop :=
  ∀ s t s' : State, SameView s t → step s = .next s' → ∃ t', step t = .next t' ∧ SameView s' t'

end
end

