-- ==== Sys2Proof/Laws/Decode.lean ====
section
/-! SUPPORT. The header's fields and its number, and when the decoder's legality test answers an operation. -/

namespace Sys2Proof

@[simp] theorem Header.ofWord_toWord (h : Header) : Header.ofWord h.toWord = h := by
  obtain ⟨o, a, b, c, d⟩ := h
  simp only [Header.ofWord, Header.toWord, Header.mk.injEq]
  refine ⟨?_, ?_, ?_, ?_, ?_⟩ <;>
    (apply BitVec.eq_of_getLsbD_eq
     intro i hi
     simp only [BitVec.getLsbD_extractLsb', BitVec.getLsbD_append, hi, decide_true, Bool.true_and])
  · rw [if_neg (by omega), if_neg (by omega), if_neg (by omega), if_neg (by omega)]
    congr 1
    omega
  · rw [if_neg (by omega), if_neg (by omega), if_neg (by omega), if_pos (by omega)]
    congr 1
    omega
  · rw [if_neg (by omega), if_neg (by omega), if_pos (by omega)]
    congr 1
    omega
  · rw [if_neg (by omega), if_pos (by omega)]
    congr 1
    omega
  · rw [if_pos (by omega)]
    congr 1
    omega

/-- `legalIf` answers an operation exactly where both tests hold (30_encoding R87). -/
theorem legalIf_eq_ok {zeros lengthOk : Bool} {i j : Instr} :
    legalIf zeros lengthOk i = .ok j ↔ zeros = true ∧ lengthOk = true ∧ i = j := by
  cases zeros <;> cases lengthOk <;> simp [legalIf]

/-- `CTRL_DATA ≠ CTRL_CMD` (00_scope R10). -/
theorem Config.ctrlData_ne_ctrlCmd : Config.ctrlData ≠ Config.ctrlCmd := by
  intro h
  have gap := Config.ctrlGap.isLt
  have : BitVec.ofNat 8 (Config.ctrlGap.val + 1) = 0#8 := by simpa [Config.ctrlData] using h
  have := congrArg BitVec.toNat this
  simp only [BitVec.toNat_ofNat] at this
  omega

end Sys2Proof
end

