-- ==== Sys2Proof/Laws/Memory.lean ====
section
/-! SUPPORT. The laws of the framebuffer: what a byte reads as after a write, that every write keeps the canonical form, that
the canonical form is canonical, and that a region write is the byte writes one after the other. -/

namespace Sys2Proof.Machine
namespace Memory

@[simp] theorem read_nil (a : Nat) : read [] a = unlisted := rfl

theorem read_cons (p : Host.Cell) (m : Memory) (a : Nat) : read (p :: m) a = if p.1 = a then p.2 else read m a := rfl

/-- An index no pair has reads as an unlisted byte. -/
theorem read_of_forall_ne (m : Memory) (a : Nat) (h : ∀ p ∈ m, p.1 ≠ a) : read m a = unlisted := by
  induction m with
  | nil => rfl
  | cons p m ih =>
    rw [read_cons, if_neg (h p (by simp)), ih fun q hq => h q (by simp [hq])]

/-- Two lists one after the other: the first decides where it has the index. -/
theorem read_append (m n : Memory) (a : Nat) :
    read (m ++ n) a = if ∃ p ∈ m, p.1 = a then read m a else read n a := by
  induction m with
  | nil => simp
  | cons p m ih =>
    rw [List.cons_append, read_cons, read_cons, ih]
    by_cases h : p.1 = a <;> simp [h]

theorem read_append_left (m n : Memory) (a : Nat) (h : ∀ p ∈ n, p.1 ≠ a) : read (m ++ n) a = read m a := by
  rw [read_append]
  split
  · rfl
  · next hm => rw [read_of_forall_ne n a h, read_of_forall_ne m a fun p hp he => hm ⟨p, hp, he⟩]

theorem read_append_right (m n : Memory) (a : Nat) (h : ∀ p ∈ m, p.1 ≠ a) : read (m ++ n) a = read n a := by
  rw [read_append, if_neg]
  rintro ⟨p, hp, he⟩
  exact h p hp he

/-- Keeping the pairs of a set of indices keeps the reading of an index of the set. -/
theorem read_filter (m : Memory) (keep : Nat → Bool) (a : Nat) (h : keep a = true) :
    read (m.filter fun p => keep p.1) a = read m a := by
  induction m with
  | nil => rfl
  | cons p m ih =>
    by_cases hp : p.1 = a
    · rw [List.filter_cons_of_pos (by simp [hp, h]), read_cons, read_cons, if_pos hp, if_pos hp]
    · by_cases hk : keep p.1 = true
      · rw [List.filter_cons_of_pos (by simpa using hk), read_cons, read_cons, if_neg hp, if_neg hp, ih]
      · rw [List.filter_cons_of_neg (by simpa using hk), read_cons, if_neg hp, ih]

/-! ## Consecutive cells -/

theorem mem_cells {at_ : Nat} {vs : List Byte} {p : Host.Cell} (h : p ∈ cells at_ vs) :
    at_ ≤ p.1 ∧ p.1 < at_ + vs.length ∧ p.2 ≠ unlisted := by
  induction vs generalizing at_ with
  | nil => simp [cells] at h
  | cons v vs ih =>
    rw [cells] at h
    split at h
    · obtain ⟨low, high, ne⟩ := ih h
      exact ⟨by omega, by simp only [List.length_cons]; omega, ne⟩
    · next hv =>
      rcases List.mem_cons.1 h with rfl | h
      · simp [hv]
      · obtain ⟨low, high, ne⟩ := ih h
        exact ⟨by omega, by simp only [List.length_cons]; omega, ne⟩

theorem read_cells (at_ : Nat) (vs : List Byte) (i : Nat) (h : i < vs.length) : read (cells at_ vs) (at_ + i) = vs[i] := by
  induction vs generalizing at_ i with
  | nil => simp at h
  | cons v vs ih =>
    have later : ∀ p ∈ cells (at_ + 1) vs, p.1 ≠ at_ := fun p hp => by
      have := mem_cells hp
      omega
    cases i with
    | zero =>
      rw [cells]
      split
      · next hv => simp [read_of_forall_ne _ _ later, hv]
      · simp [read_cons]
    | succ i =>
      have step := ih (at_ + 1) i (by simpa using h)
      rw [show at_ + 1 + i = at_ + (i + 1) by omega] at step
      rw [cells]
      split
      · simpa using step
      · rw [read_cons, if_neg (by simp)]
        simpa using step

theorem cells_pairwise (at_ : Nat) (vs : List Byte) : (cells at_ vs).Pairwise fun p q => p.1 < q.1 := by
  induction vs generalizing at_ with
  | nil => simp [cells]
  | cons v vs ih =>
    rw [cells]
    split
    · exact ih _
    · exact List.pairwise_cons.2 ⟨fun p hp => by have := mem_cells hp; simp only; omega, ih _⟩

/-! ## Region and byte writes -/

theorem writeRow_def (m : Memory) (at_ : Nat) (vs : List Byte) :
    m.writeRow at_ vs = m.filter (fun p => decide (p.1 < at_)) ++
      (cells at_ vs ++ m.filter (fun p => decide (at_ + vs.length ≤ p.1))) := by
  rw [writeRow, List.append_assoc]

/-- Inside the region, a byte reads as it was written. -/
@[simp] theorem read_writeRow_of_lt (m : Memory) (at_ : Nat) (vs : List Byte) (i : Nat) (h : i < vs.length) :
    (m.writeRow at_ vs).read (at_ + i) = vs[i] := by
  rw [writeRow_def, read_append_right, read_append_left, read_cells _ _ _ h]
  · intro p hp
    simp only [List.mem_filter, decide_eq_true_eq] at hp
    omega
  · intro p hp
    simp only [List.mem_filter, decide_eq_true_eq] at hp
    omega

/-- Outside the region, a byte reads as before. -/
theorem read_writeRow_of_out (m : Memory) (at_ : Nat) (vs : List Byte) (a : Nat) (h : a < at_ ∨ at_ + vs.length ≤ a) :
    (m.writeRow at_ vs).read a = m.read a := by
  have notCell : ∀ p ∈ cells at_ vs, p.1 ≠ a := fun p hp => by
    have := mem_cells hp
    omega
  rw [writeRow_def]
  rcases h with h | h
  · rw [read_append_left, read_filter m (fun k => decide (k < at_)) a (by simp [h])]
    intro p hp
    rcases List.mem_append.1 hp with hp | hp
    · exact notCell p hp
    · simp only [List.mem_filter, decide_eq_true_eq] at hp
      omega
  · rw [read_append_right, read_append_right _ _ _ notCell,
      read_filter m (fun k => decide (at_ + vs.length ≤ k)) a (by simp [h])]
    intro p hp
    simp only [List.mem_filter, decide_eq_true_eq] at hp
    omega

/-- What any byte reads as after a region write. -/
theorem read_writeRow (m : Memory) (at_ : Nat) (vs : List Byte) (a : Nat) :
    (m.writeRow at_ vs).read a = if h : at_ ≤ a ∧ a < at_ + vs.length then vs[a - at_]'(by omega) else m.read a := by
  split
  · next h =>
    have := read_writeRow_of_lt m at_ vs (a - at_) (by omega)
    rwa [show at_ + (a - at_) = a by omega] at this
  · next h => exact read_writeRow_of_out m at_ vs a (by omega)

/-- What any byte reads as after a fill. -/
theorem read_writeRow_replicate (m : Memory) (at_ n : Nat) (v : Byte) (a : Nat) :
    (m.writeRow at_ (List.replicate n v)).read a = if at_ ≤ a ∧ a < at_ + n then v else m.read a := by
  rw [read_writeRow]
  simp only [List.length_replicate, List.getElem_replicate, dite_eq_ite]

/-- A read after a write to the same index gives the value written. -/
@[simp] theorem read_write_self (m : Memory) (a : Nat) (v : Byte) : (m.write a v).read a = v := by
  have := read_writeRow_of_lt m a [v] 0 (by simp)
  simpa [write] using this

/-- A write leaves every other index alone. -/
theorem read_write_of_ne (m : Memory) (a b : Nat) (v : Byte) (h : b ≠ a) : (m.write a v).read b = m.read b :=
  read_writeRow_of_out m a [v] b (by simp; omega)

/-- A byte write in one equation. -/
theorem read_write (m : Memory) (a b : Nat) (v : Byte) : (m.write a v).read b = if b = a then v else m.read b := by
  split
  · next h => rw [h, read_write_self]
  · next h => exact read_write_of_ne m a b v h

/-- A region write is the write of its first byte and then of the rest: the loop of byte writes of the spec's pseudocode. -/
theorem writeRow_cons (m : Memory) (at_ : Nat) (v : Byte) (vs : List Byte) :
    m.writeRow at_ (v :: vs) = (m.write at_ v).writeRow (at_ + 1) vs := by
  have h1 : ∀ p ∈ cells at_ [v], p.1 = at_ := fun p hp => by
    have := mem_cells hp
    simp only [List.length_singleton] at this
    omega
  have hcells : cells at_ (v :: vs) = cells at_ [v] ++ cells (at_ + 1) vs := by
    rw [cells, cells, cells]
    split <;> simp
  rw [write, writeRow, writeRow, writeRow, hcells]
  simp only [List.filter_append, List.filter_filter, List.length_cons, List.length_nil, List.append_assoc]
  rw [List.filter_eq_self (l := cells at_ [v]) |>.2 fun p hp => by simp [h1 p hp],
    List.filter_eq_nil_iff (l := cells at_ [v]) |>.2 fun p hp => by simp [h1 p hp]; omega]
  congr 1
  · apply List.filter_congr
    intro p _
    simp only [Bool.and_eq_decide, decide_eq_decide, decide_eq_true_eq]
    omega
  · congr 1
    rw [List.filter_eq_nil_iff (l := m) (p := fun a => decide (a.1 < at_ + 1) && decide (at_ + (0 + 1) ≤ a.1)) |>.2
        fun p _ => by simp,
      List.filter_eq_nil_iff (l := m) (p := fun a => decide (at_ + 1 + vs.length ≤ a.1) && decide (a.1 < at_)) |>.2
        fun p _ => by simp; omega]
    simp only [List.nil_append]
    congr 1
    apply List.filter_congr
    intro p _
    simp only [Bool.and_eq_decide, decide_eq_decide, decide_eq_true_eq]
    omega

/-! ## The canonical form -/

theorem wf_nil : wf [] := by simp [wf]

/-- A region write inside the framebuffer keeps the canonical form. -/
theorem wf_writeRow (m : Memory) (at_ : Nat) (vs : List Byte) (hm : m.wf) (h : at_ + vs.length ≤ Config.fbBytes) :
    (m.writeRow at_ vs).wf := by
  obtain ⟨sorted, good⟩ := hm
  refine ⟨?_, ?_⟩
  · rw [writeRow_def]
    refine List.pairwise_append.2 ⟨sorted.filter _, List.pairwise_append.2 ⟨cells_pairwise _ _, sorted.filter _, ?_⟩, ?_⟩
    · intro p hp q hq
      have := mem_cells hp
      simp only [List.mem_filter, decide_eq_true_eq] at hq
      omega
    · intro p hp q hq
      simp only [List.mem_filter, decide_eq_true_eq] at hp
      rcases List.mem_append.1 hq with hq | hq
      · have := mem_cells hq
        omega
      · simp only [List.mem_filter, decide_eq_true_eq] at hq
        omega
  · intro p hp
    rw [writeRow_def] at hp
    rcases List.mem_append.1 hp with hp | hp
    · exact good p (List.mem_filter.1 hp).1
    · rcases List.mem_append.1 hp with hp | hp
      · have := mem_cells hp
        exact ⟨by omega, this.2.2⟩
      · exact good p (List.mem_filter.1 hp).1

/-- A byte write inside the framebuffer keeps the canonical form. -/
theorem wf_write (m : Memory) (a : Nat) (v : Byte) (hm : m.wf) (h : a < Config.fbBytes) : (m.write a v).wf :=
  wf_writeRow m a [v] hm (by simpa using h)

/-- The canonical form is canonical: equal readings, equal lists. -/
theorem eq_of_read_eq {m n : Memory} (hm : m.wf) (hn : n.wf) (h : ∀ a, m.read a = n.read a) : m = n := by
  induction m generalizing n with
  | nil =>
    cases n with
    | nil => rfl
    | cons q n =>
      have := h q.1
      rw [read_nil, read_cons, if_pos rfl] at this
      exact absurd this.symm (hn.2 q (by simp)).2
  | cons p m ih =>
    obtain ⟨hp, hm'⟩ := List.pairwise_cons.1 hm.1
    have readM : ∀ a, a ≤ p.1 → read m a = unlisted := fun a ha =>
      read_of_forall_ne m a fun q hq => by have := hp q hq; omega
    cases n with
    | nil =>
      have := h p.1
      rw [read_nil, read_cons, if_pos rfl] at this
      exact absurd this (hm.2 p (by simp)).2
    | cons q n =>
      obtain ⟨hq, hn'⟩ := List.pairwise_cons.1 hn.1
      have readN : ∀ a, a ≤ q.1 → read n a = unlisted := fun a ha =>
        read_of_forall_ne n a fun r hr => by have := hq r hr; omega
      have hp2 := (hm.2 p (by simp)).2
      have hq2 := (hn.2 q (by simp)).2
      have key : p.1 = q.1 := by
        rcases Nat.lt_trichotomy p.1 q.1 with hlt | heq | hgt
        · have := h p.1
          rw [read_cons, if_pos rfl, read_cons, if_neg (by omega), readN _ (by omega)] at this
          exact absurd this hp2
        · exact heq
        · have := h q.1
          rw [read_cons, if_neg (by omega), readM _ (by omega), read_cons, if_pos rfl] at this
          exact absurd this.symm hq2
      have value : p.2 = q.2 := by
        have := h p.1
        rwa [read_cons, if_pos rfl, read_cons, if_pos key.symm] at this
      have rest : m = n := by
        refine ih ⟨hm', fun r hr => hm.2 r (by simp [hr])⟩ ⟨hn', fun r hr => hn.2 r (by simp [hr])⟩ fun a => ?_
        by_cases ha : a = p.1
        · rw [readM a (by omega), readN a (by omega)]
        · have := h a
          rwa [read_cons, if_neg (Ne.symm ha), read_cons, if_neg (by omega)] at this
      rw [rest, Prod.ext key value]

@[simp] theorem length_readRow (m : Memory) (a n : Nat) : (m.readRow a n).length = n := by simp [readRow]

@[simp] theorem getElem_readRow (m : Memory) (a n i : Nat) (h : i < (m.readRow a n).length) :
    (m.readRow a n)[i] = m.read (a + i) := by simp [readRow]

end Memory

/-! ## Pixels -/

/-- `InBounds` in numbers (00_scope R16). -/
theorem inBounds_iff (x y : Int) : inBounds x y = true ↔ 0 ≤ x ∧ x < 128 ∧ 0 ≤ y ∧ y < 128 := by
  simp only [inBounds, Bool.and_eq_true, decide_eq_true_eq]
  simp only [Config.width, Config.height]
  omega

/-- The byte of a pixel in bounds exists (20_memory R56). -/
theorem pixelIndex_lt (x y : Int) (h : inBounds x y = true) : pixelIndex x y < Config.fbBytes := by
  rw [inBounds_iff] at h
  simp only [pixelIndex, Config.width, Config.fbBytes]
  omega

/-- The point write keeps the canonical form. -/
theorem wf_writePixel (m : Memory) (on : Bool) (x y : Int) (hm : m.wf) (h : inBounds x y = true) : (m.writePixel on x y).wf :=
  Memory.wf_write _ _ _ hm (pixelIndex_lt x y h)

/-- The point write in one equation (42_clear_point R132). -/
theorem read_writePixel (m : Memory) (on : Bool) (x y : Int) (a : Nat) :
    (m.writePixel on x y).read a =
      if a = pixelIndex x y then withPixel on y (m.read (pixelIndex x y)) else m.read a :=
  Memory.read_write _ _ _ _

end Sys2Proof.Machine
end

