-- ==== Sys2Proof/Laws/State.lean ====
section
/-! SUPPORT. What each named update of the state leaves in each field, so that no later proof unfolds a record update. A free
working value has no lemma: nothing may rest on it. -/

namespace Sys2Proof.Machine

variable (s : State)

@[simp] theorem raise_eq (code : ResultCode) (info : Byte) : raise code info s = respond code info s := rfl
@[simp] theorem complete_eq : complete s = respond .ok 0#8 s := rfl
@[simp] theorem conclude_ok : conclude .ok s = respond .ok 0#8 s := rfl
@[simp] theorem conclude_err (e : Byte) : conclude (.err e) s = respond .busErr e s := rfl

/-- The result code of an operation whose last transaction was answered so. -/
def codeOf : Answer → ResultCode
  | .ok => .ok
  | .err _ => .busErr

/-- The information byte that goes with it. -/
def infoOf : Answer → Byte
  | .ok => 0
  | .err e => e

theorem conclude_eq (r : Answer) : conclude r s = respond (codeOf r) (infoOf r) s := by cases r <;> rfl

/-! ## `withFb` -/

@[simp] theorem withFb_devValid (m : Memory) : (withFb m s).devValid = s.devValid := rfl
@[simp] theorem withFb_busId (m : Memory) : (withFb m s).busId = s.busId := rfl
@[simp] theorem withFb_devAddr (m : Memory) : (withFb m s).devAddr = s.devAddr := rfl
@[simp] theorem withFb_fb (m : Memory) : (withFb m s).fb = m := rfl
@[simp] theorem withFb_busy (m : Memory) : (withFb m s).busy = s.busy := rfl
@[simp] theorem withFb_initWarn (m : Memory) : (withFb m s).initWarn = s.initWarn := rfl
@[simp] theorem withFb_lastResult (m : Memory) : (withFb m s).lastResult = s.lastResult := rfl
@[simp] theorem withFb_lastInfo (m : Memory) : (withFb m s).lastInfo = s.lastInfo := rfl
@[simp] theorem withFb_opc (m : Memory) : (withFb m s).opc = s.opc := rfl
@[simp] theorem withFb_a (m : Memory) : (withFb m s).a = s.a := rfl
@[simp] theorem withFb_b (m : Memory) : (withFb m s).b = s.b := rfl
@[simp] theorem withFb_c (m : Memory) : (withFb m s).c = s.c := rfl
@[simp] theorem withFb_d (m : Memory) : (withFb m s).d = s.d := rfl
@[simp] theorem withFb_pay (m : Memory) : (withFb m s).pay = s.pay := rfl
@[simp] theorem withFb_seq (m : Memory) : (withFb m s).seq = s.seq := rfl
@[simp] theorem withFb_line (m : Memory) : (withFb m s).line = s.line := rfl
@[simp] theorem withFb_text (m : Memory) : (withFb m s).text = s.text := rfl
@[simp] theorem withFb_scan (m : Memory) : (withFb m s).scan = s.scan := rfl
@[simp] theorem withFb_initIdx (m : Memory) : (withFb m s).initIdx = s.initIdx := rfl
@[simp] theorem withFb_fillIdx (m : Memory) : (withFb m s).fillIdx = s.fillIdx := rfl
@[simp] theorem withFb_trace (m : Memory) : (withFb m s).trace = s.trace := rfl
@[simp] theorem withFb_responses (m : Memory) : (withFb m s).responses = s.responses := rfl
@[simp] theorem withFb_host (m : Memory) : (withFb m s).host = s.host := rfl
@[simp] theorem withFb_answers (m : Memory) : (withFb m s).answers = s.answers := rfl
@[simp] theorem withFb_answerDraws (m : Memory) : (withFb m s).answerDraws = s.answerDraws := rfl
@[simp] theorem withFb_allocs (m : Memory) : (withFb m s).allocs = s.allocs := rfl
@[simp] theorem withFb_draws (m : Memory) : (withFb m s).draws = s.draws := rfl
@[simp] theorem withFb_nextAnswer (m : Memory) (k : Nat) : (withFb m s).nextAnswer k = s.nextAnswer k := rfl

/-! ## `withLine` -/

@[simp] theorem withLine_devValid (r : LineRegs) : (withLine r s).devValid = s.devValid := rfl
@[simp] theorem withLine_busId (r : LineRegs) : (withLine r s).busId = s.busId := rfl
@[simp] theorem withLine_devAddr (r : LineRegs) : (withLine r s).devAddr = s.devAddr := rfl
@[simp] theorem withLine_fb (r : LineRegs) : (withLine r s).fb = s.fb := rfl
@[simp] theorem withLine_busy (r : LineRegs) : (withLine r s).busy = s.busy := rfl
@[simp] theorem withLine_initWarn (r : LineRegs) : (withLine r s).initWarn = s.initWarn := rfl
@[simp] theorem withLine_lastResult (r : LineRegs) : (withLine r s).lastResult = s.lastResult := rfl
@[simp] theorem withLine_lastInfo (r : LineRegs) : (withLine r s).lastInfo = s.lastInfo := rfl
@[simp] theorem withLine_opc (r : LineRegs) : (withLine r s).opc = s.opc := rfl
@[simp] theorem withLine_a (r : LineRegs) : (withLine r s).a = s.a := rfl
@[simp] theorem withLine_b (r : LineRegs) : (withLine r s).b = s.b := rfl
@[simp] theorem withLine_c (r : LineRegs) : (withLine r s).c = s.c := rfl
@[simp] theorem withLine_d (r : LineRegs) : (withLine r s).d = s.d := rfl
@[simp] theorem withLine_pay (r : LineRegs) : (withLine r s).pay = s.pay := rfl
@[simp] theorem withLine_seq (r : LineRegs) : (withLine r s).seq = s.seq := rfl
@[simp] theorem withLine_line (r : LineRegs) : (withLine r s).line = r := rfl
@[simp] theorem withLine_text (r : LineRegs) : (withLine r s).text = s.text := rfl
@[simp] theorem withLine_scan (r : LineRegs) : (withLine r s).scan = s.scan := rfl
@[simp] theorem withLine_initIdx (r : LineRegs) : (withLine r s).initIdx = s.initIdx := rfl
@[simp] theorem withLine_fillIdx (r : LineRegs) : (withLine r s).fillIdx = s.fillIdx := rfl
@[simp] theorem withLine_trace (r : LineRegs) : (withLine r s).trace = s.trace := rfl
@[simp] theorem withLine_responses (r : LineRegs) : (withLine r s).responses = s.responses := rfl
@[simp] theorem withLine_host (r : LineRegs) : (withLine r s).host = s.host := rfl
@[simp] theorem withLine_answers (r : LineRegs) : (withLine r s).answers = s.answers := rfl
@[simp] theorem withLine_answerDraws (r : LineRegs) : (withLine r s).answerDraws = s.answerDraws := rfl
@[simp] theorem withLine_allocs (r : LineRegs) : (withLine r s).allocs = s.allocs := rfl
@[simp] theorem withLine_draws (r : LineRegs) : (withLine r s).draws = s.draws := rfl
@[simp] theorem withLine_nextAnswer (r : LineRegs) (k : Nat) : (withLine r s).nextAnswer k = s.nextAnswer k := rfl

/-! ## `withText` -/

@[simp] theorem withText_devValid (r : TextRegs) : (withText r s).devValid = s.devValid := rfl
@[simp] theorem withText_busId (r : TextRegs) : (withText r s).busId = s.busId := rfl
@[simp] theorem withText_devAddr (r : TextRegs) : (withText r s).devAddr = s.devAddr := rfl
@[simp] theorem withText_fb (r : TextRegs) : (withText r s).fb = s.fb := rfl
@[simp] theorem withText_busy (r : TextRegs) : (withText r s).busy = s.busy := rfl
@[simp] theorem withText_initWarn (r : TextRegs) : (withText r s).initWarn = s.initWarn := rfl
@[simp] theorem withText_lastResult (r : TextRegs) : (withText r s).lastResult = s.lastResult := rfl
@[simp] theorem withText_lastInfo (r : TextRegs) : (withText r s).lastInfo = s.lastInfo := rfl
@[simp] theorem withText_opc (r : TextRegs) : (withText r s).opc = s.opc := rfl
@[simp] theorem withText_a (r : TextRegs) : (withText r s).a = s.a := rfl
@[simp] theorem withText_b (r : TextRegs) : (withText r s).b = s.b := rfl
@[simp] theorem withText_c (r : TextRegs) : (withText r s).c = s.c := rfl
@[simp] theorem withText_d (r : TextRegs) : (withText r s).d = s.d := rfl
@[simp] theorem withText_pay (r : TextRegs) : (withText r s).pay = s.pay := rfl
@[simp] theorem withText_seq (r : TextRegs) : (withText r s).seq = s.seq := rfl
@[simp] theorem withText_line (r : TextRegs) : (withText r s).line = s.line := rfl
@[simp] theorem withText_text (r : TextRegs) : (withText r s).text = r := rfl
@[simp] theorem withText_scan (r : TextRegs) : (withText r s).scan = s.scan := rfl
@[simp] theorem withText_initIdx (r : TextRegs) : (withText r s).initIdx = s.initIdx := rfl
@[simp] theorem withText_fillIdx (r : TextRegs) : (withText r s).fillIdx = s.fillIdx := rfl
@[simp] theorem withText_trace (r : TextRegs) : (withText r s).trace = s.trace := rfl
@[simp] theorem withText_responses (r : TextRegs) : (withText r s).responses = s.responses := rfl
@[simp] theorem withText_host (r : TextRegs) : (withText r s).host = s.host := rfl
@[simp] theorem withText_answers (r : TextRegs) : (withText r s).answers = s.answers := rfl
@[simp] theorem withText_answerDraws (r : TextRegs) : (withText r s).answerDraws = s.answerDraws := rfl
@[simp] theorem withText_allocs (r : TextRegs) : (withText r s).allocs = s.allocs := rfl
@[simp] theorem withText_draws (r : TextRegs) : (withText r s).draws = s.draws := rfl
@[simp] theorem withText_nextAnswer (r : TextRegs) (k : Nat) : (withText r s).nextAnswer k = s.nextAnswer k := rfl

/-! ## `withScan` -/

@[simp] theorem withScan_devValid (r : ScanRegs) : (withScan r s).devValid = s.devValid := rfl
@[simp] theorem withScan_busId (r : ScanRegs) : (withScan r s).busId = s.busId := rfl
@[simp] theorem withScan_devAddr (r : ScanRegs) : (withScan r s).devAddr = s.devAddr := rfl
@[simp] theorem withScan_fb (r : ScanRegs) : (withScan r s).fb = s.fb := rfl
@[simp] theorem withScan_busy (r : ScanRegs) : (withScan r s).busy = s.busy := rfl
@[simp] theorem withScan_initWarn (r : ScanRegs) : (withScan r s).initWarn = s.initWarn := rfl
@[simp] theorem withScan_lastResult (r : ScanRegs) : (withScan r s).lastResult = s.lastResult := rfl
@[simp] theorem withScan_lastInfo (r : ScanRegs) : (withScan r s).lastInfo = s.lastInfo := rfl
@[simp] theorem withScan_opc (r : ScanRegs) : (withScan r s).opc = s.opc := rfl
@[simp] theorem withScan_a (r : ScanRegs) : (withScan r s).a = s.a := rfl
@[simp] theorem withScan_b (r : ScanRegs) : (withScan r s).b = s.b := rfl
@[simp] theorem withScan_c (r : ScanRegs) : (withScan r s).c = s.c := rfl
@[simp] theorem withScan_d (r : ScanRegs) : (withScan r s).d = s.d := rfl
@[simp] theorem withScan_pay (r : ScanRegs) : (withScan r s).pay = s.pay := rfl
@[simp] theorem withScan_seq (r : ScanRegs) : (withScan r s).seq = s.seq := rfl
@[simp] theorem withScan_line (r : ScanRegs) : (withScan r s).line = s.line := rfl
@[simp] theorem withScan_text (r : ScanRegs) : (withScan r s).text = s.text := rfl
@[simp] theorem withScan_scan (r : ScanRegs) : (withScan r s).scan = r := rfl
@[simp] theorem withScan_initIdx (r : ScanRegs) : (withScan r s).initIdx = s.initIdx := rfl
@[simp] theorem withScan_fillIdx (r : ScanRegs) : (withScan r s).fillIdx = s.fillIdx := rfl
@[simp] theorem withScan_trace (r : ScanRegs) : (withScan r s).trace = s.trace := rfl
@[simp] theorem withScan_responses (r : ScanRegs) : (withScan r s).responses = s.responses := rfl
@[simp] theorem withScan_host (r : ScanRegs) : (withScan r s).host = s.host := rfl
@[simp] theorem withScan_answers (r : ScanRegs) : (withScan r s).answers = s.answers := rfl
@[simp] theorem withScan_answerDraws (r : ScanRegs) : (withScan r s).answerDraws = s.answerDraws := rfl
@[simp] theorem withScan_allocs (r : ScanRegs) : (withScan r s).allocs = s.allocs := rfl
@[simp] theorem withScan_draws (r : ScanRegs) : (withScan r s).draws = s.draws := rfl
@[simp] theorem withScan_nextAnswer (r : ScanRegs) (k : Nat) : (withScan r s).nextAnswer k = s.nextAnswer k := rfl

/-! ## `withInitIdx` -/

@[simp] theorem withInitIdx_devValid (i : BitVec 6) : (withInitIdx i s).devValid = s.devValid := rfl
@[simp] theorem withInitIdx_busId (i : BitVec 6) : (withInitIdx i s).busId = s.busId := rfl
@[simp] theorem withInitIdx_devAddr (i : BitVec 6) : (withInitIdx i s).devAddr = s.devAddr := rfl
@[simp] theorem withInitIdx_fb (i : BitVec 6) : (withInitIdx i s).fb = s.fb := rfl
@[simp] theorem withInitIdx_busy (i : BitVec 6) : (withInitIdx i s).busy = s.busy := rfl
@[simp] theorem withInitIdx_initWarn (i : BitVec 6) : (withInitIdx i s).initWarn = s.initWarn := rfl
@[simp] theorem withInitIdx_lastResult (i : BitVec 6) : (withInitIdx i s).lastResult = s.lastResult := rfl
@[simp] theorem withInitIdx_lastInfo (i : BitVec 6) : (withInitIdx i s).lastInfo = s.lastInfo := rfl
@[simp] theorem withInitIdx_opc (i : BitVec 6) : (withInitIdx i s).opc = s.opc := rfl
@[simp] theorem withInitIdx_a (i : BitVec 6) : (withInitIdx i s).a = s.a := rfl
@[simp] theorem withInitIdx_b (i : BitVec 6) : (withInitIdx i s).b = s.b := rfl
@[simp] theorem withInitIdx_c (i : BitVec 6) : (withInitIdx i s).c = s.c := rfl
@[simp] theorem withInitIdx_d (i : BitVec 6) : (withInitIdx i s).d = s.d := rfl
@[simp] theorem withInitIdx_pay (i : BitVec 6) : (withInitIdx i s).pay = s.pay := rfl
@[simp] theorem withInitIdx_seq (i : BitVec 6) : (withInitIdx i s).seq = s.seq := rfl
@[simp] theorem withInitIdx_line (i : BitVec 6) : (withInitIdx i s).line = s.line := rfl
@[simp] theorem withInitIdx_text (i : BitVec 6) : (withInitIdx i s).text = s.text := rfl
@[simp] theorem withInitIdx_scan (i : BitVec 6) : (withInitIdx i s).scan = s.scan := rfl
@[simp] theorem withInitIdx_initIdx (i : BitVec 6) : (withInitIdx i s).initIdx = i := rfl
@[simp] theorem withInitIdx_fillIdx (i : BitVec 6) : (withInitIdx i s).fillIdx = s.fillIdx := rfl
@[simp] theorem withInitIdx_trace (i : BitVec 6) : (withInitIdx i s).trace = s.trace := rfl
@[simp] theorem withInitIdx_responses (i : BitVec 6) : (withInitIdx i s).responses = s.responses := rfl
@[simp] theorem withInitIdx_host (i : BitVec 6) : (withInitIdx i s).host = s.host := rfl
@[simp] theorem withInitIdx_answers (i : BitVec 6) : (withInitIdx i s).answers = s.answers := rfl
@[simp] theorem withInitIdx_answerDraws (i : BitVec 6) : (withInitIdx i s).answerDraws = s.answerDraws := rfl
@[simp] theorem withInitIdx_allocs (i : BitVec 6) : (withInitIdx i s).allocs = s.allocs := rfl
@[simp] theorem withInitIdx_draws (i : BitVec 6) : (withInitIdx i s).draws = s.draws := rfl
@[simp] theorem withInitIdx_nextAnswer (i : BitVec 6) (k : Nat) : (withInitIdx i s).nextAnswer k = s.nextAnswer k := rfl

/-! ## `withInitWarn` -/

@[simp] theorem withInitWarn_devValid (w : Bool) : (withInitWarn w s).devValid = s.devValid := rfl
@[simp] theorem withInitWarn_busId (w : Bool) : (withInitWarn w s).busId = s.busId := rfl
@[simp] theorem withInitWarn_devAddr (w : Bool) : (withInitWarn w s).devAddr = s.devAddr := rfl
@[simp] theorem withInitWarn_fb (w : Bool) : (withInitWarn w s).fb = s.fb := rfl
@[simp] theorem withInitWarn_busy (w : Bool) : (withInitWarn w s).busy = s.busy := rfl
@[simp] theorem withInitWarn_initWarn (w : Bool) : (withInitWarn w s).initWarn = w := rfl
@[simp] theorem withInitWarn_lastResult (w : Bool) : (withInitWarn w s).lastResult = s.lastResult := rfl
@[simp] theorem withInitWarn_lastInfo (w : Bool) : (withInitWarn w s).lastInfo = s.lastInfo := rfl
@[simp] theorem withInitWarn_opc (w : Bool) : (withInitWarn w s).opc = s.opc := rfl
@[simp] theorem withInitWarn_a (w : Bool) : (withInitWarn w s).a = s.a := rfl
@[simp] theorem withInitWarn_b (w : Bool) : (withInitWarn w s).b = s.b := rfl
@[simp] theorem withInitWarn_c (w : Bool) : (withInitWarn w s).c = s.c := rfl
@[simp] theorem withInitWarn_d (w : Bool) : (withInitWarn w s).d = s.d := rfl
@[simp] theorem withInitWarn_pay (w : Bool) : (withInitWarn w s).pay = s.pay := rfl
@[simp] theorem withInitWarn_seq (w : Bool) : (withInitWarn w s).seq = s.seq := rfl
@[simp] theorem withInitWarn_line (w : Bool) : (withInitWarn w s).line = s.line := rfl
@[simp] theorem withInitWarn_text (w : Bool) : (withInitWarn w s).text = s.text := rfl
@[simp] theorem withInitWarn_scan (w : Bool) : (withInitWarn w s).scan = s.scan := rfl
@[simp] theorem withInitWarn_initIdx (w : Bool) : (withInitWarn w s).initIdx = s.initIdx := rfl
@[simp] theorem withInitWarn_fillIdx (w : Bool) : (withInitWarn w s).fillIdx = s.fillIdx := rfl
@[simp] theorem withInitWarn_trace (w : Bool) : (withInitWarn w s).trace = s.trace := rfl
@[simp] theorem withInitWarn_responses (w : Bool) : (withInitWarn w s).responses = s.responses := rfl
@[simp] theorem withInitWarn_host (w : Bool) : (withInitWarn w s).host = s.host := rfl
@[simp] theorem withInitWarn_answers (w : Bool) : (withInitWarn w s).answers = s.answers := rfl
@[simp] theorem withInitWarn_answerDraws (w : Bool) : (withInitWarn w s).answerDraws = s.answerDraws := rfl
@[simp] theorem withInitWarn_allocs (w : Bool) : (withInitWarn w s).allocs = s.allocs := rfl
@[simp] theorem withInitWarn_draws (w : Bool) : (withInitWarn w s).draws = s.draws := rfl
@[simp] theorem withInitWarn_nextAnswer (w : Bool) (k : Nat) : (withInitWarn w s).nextAnswer k = s.nextAnswer k := rfl

/-! ## `withDevValid` -/

@[simp] theorem withDevValid_devValid (v : Bool) : (withDevValid v s).devValid = v := rfl
@[simp] theorem withDevValid_busId (v : Bool) : (withDevValid v s).busId = s.busId := rfl
@[simp] theorem withDevValid_devAddr (v : Bool) : (withDevValid v s).devAddr = s.devAddr := rfl
@[simp] theorem withDevValid_fb (v : Bool) : (withDevValid v s).fb = s.fb := rfl
@[simp] theorem withDevValid_busy (v : Bool) : (withDevValid v s).busy = s.busy := rfl
@[simp] theorem withDevValid_initWarn (v : Bool) : (withDevValid v s).initWarn = s.initWarn := rfl
@[simp] theorem withDevValid_lastResult (v : Bool) : (withDevValid v s).lastResult = s.lastResult := rfl
@[simp] theorem withDevValid_lastInfo (v : Bool) : (withDevValid v s).lastInfo = s.lastInfo := rfl
@[simp] theorem withDevValid_opc (v : Bool) : (withDevValid v s).opc = s.opc := rfl
@[simp] theorem withDevValid_a (v : Bool) : (withDevValid v s).a = s.a := rfl
@[simp] theorem withDevValid_b (v : Bool) : (withDevValid v s).b = s.b := rfl
@[simp] theorem withDevValid_c (v : Bool) : (withDevValid v s).c = s.c := rfl
@[simp] theorem withDevValid_d (v : Bool) : (withDevValid v s).d = s.d := rfl
@[simp] theorem withDevValid_pay (v : Bool) : (withDevValid v s).pay = s.pay := rfl
@[simp] theorem withDevValid_seq (v : Bool) : (withDevValid v s).seq = s.seq := rfl
@[simp] theorem withDevValid_line (v : Bool) : (withDevValid v s).line = s.line := rfl
@[simp] theorem withDevValid_text (v : Bool) : (withDevValid v s).text = s.text := rfl
@[simp] theorem withDevValid_scan (v : Bool) : (withDevValid v s).scan = s.scan := rfl
@[simp] theorem withDevValid_initIdx (v : Bool) : (withDevValid v s).initIdx = s.initIdx := rfl
@[simp] theorem withDevValid_fillIdx (v : Bool) : (withDevValid v s).fillIdx = s.fillIdx := rfl
@[simp] theorem withDevValid_trace (v : Bool) : (withDevValid v s).trace = s.trace := rfl
@[simp] theorem withDevValid_responses (v : Bool) : (withDevValid v s).responses = s.responses := rfl
@[simp] theorem withDevValid_host (v : Bool) : (withDevValid v s).host = s.host := rfl
@[simp] theorem withDevValid_answers (v : Bool) : (withDevValid v s).answers = s.answers := rfl
@[simp] theorem withDevValid_answerDraws (v : Bool) : (withDevValid v s).answerDraws = s.answerDraws := rfl
@[simp] theorem withDevValid_allocs (v : Bool) : (withDevValid v s).allocs = s.allocs := rfl
@[simp] theorem withDevValid_draws (v : Bool) : (withDevValid v s).draws = s.draws := rfl
@[simp] theorem withDevValid_nextAnswer (v : Bool) (k : Nat) : (withDevValid v s).nextAnswer k = s.nextAnswer k := rfl

/-! ## `latchDevice` -/

@[simp] theorem latchDevice_devValid (b : Byte) (r : BitVec 7) : (latchDevice b r s).devValid = s.devValid := rfl
@[simp] theorem latchDevice_busId (b : Byte) (r : BitVec 7) : (latchDevice b r s).busId = b := rfl
@[simp] theorem latchDevice_devAddr (b : Byte) (r : BitVec 7) : (latchDevice b r s).devAddr = r := rfl
@[simp] theorem latchDevice_fb (b : Byte) (r : BitVec 7) : (latchDevice b r s).fb = s.fb := rfl
@[simp] theorem latchDevice_busy (b : Byte) (r : BitVec 7) : (latchDevice b r s).busy = s.busy := rfl
@[simp] theorem latchDevice_initWarn (b : Byte) (r : BitVec 7) : (latchDevice b r s).initWarn = s.initWarn := rfl
@[simp] theorem latchDevice_lastResult (b : Byte) (r : BitVec 7) : (latchDevice b r s).lastResult = s.lastResult := rfl
@[simp] theorem latchDevice_lastInfo (b : Byte) (r : BitVec 7) : (latchDevice b r s).lastInfo = s.lastInfo := rfl
@[simp] theorem latchDevice_opc (b : Byte) (r : BitVec 7) : (latchDevice b r s).opc = s.opc := rfl
@[simp] theorem latchDevice_a (b : Byte) (r : BitVec 7) : (latchDevice b r s).a = s.a := rfl
@[simp] theorem latchDevice_b (b : Byte) (r : BitVec 7) : (latchDevice b r s).b = s.b := rfl
@[simp] theorem latchDevice_c (b : Byte) (r : BitVec 7) : (latchDevice b r s).c = s.c := rfl
@[simp] theorem latchDevice_d (b : Byte) (r : BitVec 7) : (latchDevice b r s).d = s.d := rfl
@[simp] theorem latchDevice_pay (b : Byte) (r : BitVec 7) : (latchDevice b r s).pay = s.pay := rfl
@[simp] theorem latchDevice_seq (b : Byte) (r : BitVec 7) : (latchDevice b r s).seq = s.seq := rfl
@[simp] theorem latchDevice_line (b : Byte) (r : BitVec 7) : (latchDevice b r s).line = s.line := rfl
@[simp] theorem latchDevice_text (b : Byte) (r : BitVec 7) : (latchDevice b r s).text = s.text := rfl
@[simp] theorem latchDevice_scan (b : Byte) (r : BitVec 7) : (latchDevice b r s).scan = s.scan := rfl
@[simp] theorem latchDevice_initIdx (b : Byte) (r : BitVec 7) : (latchDevice b r s).initIdx = s.initIdx := rfl
@[simp] theorem latchDevice_fillIdx (b : Byte) (r : BitVec 7) : (latchDevice b r s).fillIdx = s.fillIdx := rfl
@[simp] theorem latchDevice_trace (b : Byte) (r : BitVec 7) : (latchDevice b r s).trace = s.trace := rfl
@[simp] theorem latchDevice_responses (b : Byte) (r : BitVec 7) : (latchDevice b r s).responses = s.responses := rfl
@[simp] theorem latchDevice_host (b : Byte) (r : BitVec 7) : (latchDevice b r s).host = s.host := rfl
@[simp] theorem latchDevice_answers (b : Byte) (r : BitVec 7) : (latchDevice b r s).answers = s.answers := rfl
@[simp] theorem latchDevice_answerDraws (b : Byte) (r : BitVec 7) : (latchDevice b r s).answerDraws = s.answerDraws := rfl
@[simp] theorem latchDevice_allocs (b : Byte) (r : BitVec 7) : (latchDevice b r s).allocs = s.allocs := rfl
@[simp] theorem latchDevice_draws (b : Byte) (r : BitVec 7) : (latchDevice b r s).draws = s.draws := rfl
@[simp] theorem latchDevice_nextAnswer (b : Byte) (r : BitVec 7) (k : Nat) : (latchDevice b r s).nextAnswer k = s.nextAnswer k := rfl

/-! ## `withHost` -/

@[simp] theorem withHost_devValid (inputs : List HostInput) : (withHost inputs s).devValid = s.devValid := rfl
@[simp] theorem withHost_busId (inputs : List HostInput) : (withHost inputs s).busId = s.busId := rfl
@[simp] theorem withHost_devAddr (inputs : List HostInput) : (withHost inputs s).devAddr = s.devAddr := rfl
@[simp] theorem withHost_fb (inputs : List HostInput) : (withHost inputs s).fb = s.fb := rfl
@[simp] theorem withHost_busy (inputs : List HostInput) : (withHost inputs s).busy = s.busy := rfl
@[simp] theorem withHost_initWarn (inputs : List HostInput) : (withHost inputs s).initWarn = s.initWarn := rfl
@[simp] theorem withHost_lastResult (inputs : List HostInput) : (withHost inputs s).lastResult = s.lastResult := rfl
@[simp] theorem withHost_lastInfo (inputs : List HostInput) : (withHost inputs s).lastInfo = s.lastInfo := rfl
@[simp] theorem withHost_opc (inputs : List HostInput) : (withHost inputs s).opc = s.opc := rfl
@[simp] theorem withHost_a (inputs : List HostInput) : (withHost inputs s).a = s.a := rfl
@[simp] theorem withHost_b (inputs : List HostInput) : (withHost inputs s).b = s.b := rfl
@[simp] theorem withHost_c (inputs : List HostInput) : (withHost inputs s).c = s.c := rfl
@[simp] theorem withHost_d (inputs : List HostInput) : (withHost inputs s).d = s.d := rfl
@[simp] theorem withHost_pay (inputs : List HostInput) : (withHost inputs s).pay = s.pay := rfl
@[simp] theorem withHost_seq (inputs : List HostInput) : (withHost inputs s).seq = s.seq := rfl
@[simp] theorem withHost_line (inputs : List HostInput) : (withHost inputs s).line = s.line := rfl
@[simp] theorem withHost_text (inputs : List HostInput) : (withHost inputs s).text = s.text := rfl
@[simp] theorem withHost_scan (inputs : List HostInput) : (withHost inputs s).scan = s.scan := rfl
@[simp] theorem withHost_initIdx (inputs : List HostInput) : (withHost inputs s).initIdx = s.initIdx := rfl
@[simp] theorem withHost_fillIdx (inputs : List HostInput) : (withHost inputs s).fillIdx = s.fillIdx := rfl
@[simp] theorem withHost_trace (inputs : List HostInput) : (withHost inputs s).trace = s.trace := rfl
@[simp] theorem withHost_responses (inputs : List HostInput) : (withHost inputs s).responses = s.responses := rfl
@[simp] theorem withHost_host (inputs : List HostInput) : (withHost inputs s).host = inputs := rfl
@[simp] theorem withHost_answers (inputs : List HostInput) : (withHost inputs s).answers = s.answers := rfl
@[simp] theorem withHost_answerDraws (inputs : List HostInput) : (withHost inputs s).answerDraws = s.answerDraws := rfl
@[simp] theorem withHost_allocs (inputs : List HostInput) : (withHost inputs s).allocs = s.allocs := rfl
@[simp] theorem withHost_draws (inputs : List HostInput) : (withHost inputs s).draws = s.draws := rfl
@[simp] theorem withHost_nextAnswer (inputs : List HostInput) (k : Nat) : (withHost inputs s).nextAnswer k = s.nextAnswer k := rfl

/-! ## `record` -/

@[simp] theorem record_devValid (x : Transaction) : (record x s).devValid = s.devValid := rfl
@[simp] theorem record_busId (x : Transaction) : (record x s).busId = s.busId := rfl
@[simp] theorem record_devAddr (x : Transaction) : (record x s).devAddr = s.devAddr := rfl
@[simp] theorem record_fb (x : Transaction) : (record x s).fb = s.fb := rfl
@[simp] theorem record_busy (x : Transaction) : (record x s).busy = s.busy := rfl
@[simp] theorem record_initWarn (x : Transaction) : (record x s).initWarn = s.initWarn := rfl
@[simp] theorem record_lastResult (x : Transaction) : (record x s).lastResult = s.lastResult := rfl
@[simp] theorem record_lastInfo (x : Transaction) : (record x s).lastInfo = s.lastInfo := rfl
@[simp] theorem record_opc (x : Transaction) : (record x s).opc = s.opc := rfl
@[simp] theorem record_a (x : Transaction) : (record x s).a = s.a := rfl
@[simp] theorem record_b (x : Transaction) : (record x s).b = s.b := rfl
@[simp] theorem record_c (x : Transaction) : (record x s).c = s.c := rfl
@[simp] theorem record_d (x : Transaction) : (record x s).d = s.d := rfl
@[simp] theorem record_pay (x : Transaction) : (record x s).pay = s.pay := rfl
@[simp] theorem record_seq (x : Transaction) : (record x s).seq = s.seq := rfl
@[simp] theorem record_line (x : Transaction) : (record x s).line = s.line := rfl
@[simp] theorem record_text (x : Transaction) : (record x s).text = s.text := rfl
@[simp] theorem record_scan (x : Transaction) : (record x s).scan = s.scan := rfl
@[simp] theorem record_initIdx (x : Transaction) : (record x s).initIdx = s.initIdx := rfl
@[simp] theorem record_fillIdx (x : Transaction) : (record x s).fillIdx = s.fillIdx := rfl
@[simp] theorem record_trace (x : Transaction) : (record x s).trace = s.trace ++ [x] := rfl
@[simp] theorem record_responses (x : Transaction) : (record x s).responses = s.responses := rfl
@[simp] theorem record_host (x : Transaction) : (record x s).host = s.host := rfl
@[simp] theorem record_answers (x : Transaction) : (record x s).answers = s.answers := rfl
@[simp] theorem record_answerDraws (x : Transaction) : (record x s).answerDraws = s.answerDraws := rfl
@[simp] theorem record_allocs (x : Transaction) : (record x s).allocs = s.allocs := rfl
@[simp] theorem record_draws (x : Transaction) : (record x s).draws = s.draws := rfl
@[simp] theorem record_nextAnswer (x : Transaction) (k : Nat) : (record x s).nextAnswer k = s.nextAnswer k := rfl

/-! ## `enter` -/

@[simp] theorem enter_devValid (q : Seq) : (enter q s).devValid = s.devValid := rfl
@[simp] theorem enter_busId (q : Seq) : (enter q s).busId = s.busId := rfl
@[simp] theorem enter_devAddr (q : Seq) : (enter q s).devAddr = s.devAddr := rfl
@[simp] theorem enter_fb (q : Seq) : (enter q s).fb = s.fb := rfl
@[simp] theorem enter_busy (q : Seq) : (enter q s).busy = s.busy := rfl
@[simp] theorem enter_initWarn (q : Seq) : (enter q s).initWarn = s.initWarn := rfl
@[simp] theorem enter_lastResult (q : Seq) : (enter q s).lastResult = s.lastResult := rfl
@[simp] theorem enter_lastInfo (q : Seq) : (enter q s).lastInfo = s.lastInfo := rfl
@[simp] theorem enter_opc (q : Seq) : (enter q s).opc = s.opc := rfl
@[simp] theorem enter_a (q : Seq) : (enter q s).a = s.a := rfl
@[simp] theorem enter_b (q : Seq) : (enter q s).b = s.b := rfl
@[simp] theorem enter_c (q : Seq) : (enter q s).c = s.c := rfl
@[simp] theorem enter_d (q : Seq) : (enter q s).d = s.d := rfl
@[simp] theorem enter_pay (q : Seq) : (enter q s).pay = s.pay := rfl
@[simp] theorem enter_seq (q : Seq) : (enter q s).seq = q := rfl
@[simp] theorem enter_line (q : Seq) : (enter q s).line = s.line := rfl
@[simp] theorem enter_text (q : Seq) : (enter q s).text = s.text := rfl
@[simp] theorem enter_scan (q : Seq) : (enter q s).scan = s.scan := rfl
@[simp] theorem enter_initIdx (q : Seq) : (enter q s).initIdx = s.initIdx := rfl
@[simp] theorem enter_fillIdx (q : Seq) : (enter q s).fillIdx = s.fillIdx := rfl
@[simp] theorem enter_trace (q : Seq) : (enter q s).trace = s.trace := rfl
@[simp] theorem enter_responses (q : Seq) : (enter q s).responses = s.responses := rfl
@[simp] theorem enter_host (q : Seq) : (enter q s).host = s.host := rfl
@[simp] theorem enter_answers (q : Seq) : (enter q s).answers = s.answers := rfl
@[simp] theorem enter_answerDraws (q : Seq) : (enter q s).answerDraws = s.answerDraws := rfl
@[simp] theorem enter_allocs (q : Seq) : (enter q s).allocs = s.allocs := rfl
@[simp] theorem enter_draws (q : Seq) : (enter q s).draws = s.draws := rfl
@[simp] theorem enter_nextAnswer (q : Seq) (k : Nat) : (enter q s).nextAnswer k = s.nextAnswer k := rfl

/-! ## `respond` -/

@[simp] theorem respond_devValid (code : ResultCode) (info : Byte) : (respond code info s).devValid = s.devValid := rfl
@[simp] theorem respond_busId (code : ResultCode) (info : Byte) : (respond code info s).busId = s.busId := rfl
@[simp] theorem respond_devAddr (code : ResultCode) (info : Byte) : (respond code info s).devAddr = s.devAddr := rfl
@[simp] theorem respond_fb (code : ResultCode) (info : Byte) : (respond code info s).fb = s.fb := rfl
@[simp] theorem respond_busy (code : ResultCode) (info : Byte) : (respond code info s).busy = false := rfl
@[simp] theorem respond_initWarn (code : ResultCode) (info : Byte) : (respond code info s).initWarn = s.initWarn := rfl
@[simp] theorem respond_lastResult (code : ResultCode) (info : Byte) : (respond code info s).lastResult = code := rfl
@[simp] theorem respond_lastInfo (code : ResultCode) (info : Byte) : (respond code info s).lastInfo = info := rfl
@[simp] theorem respond_opc (code : ResultCode) (info : Byte) : (respond code info s).opc = s.opc := rfl
@[simp] theorem respond_a (code : ResultCode) (info : Byte) : (respond code info s).a = s.a := rfl
@[simp] theorem respond_b (code : ResultCode) (info : Byte) : (respond code info s).b = s.b := rfl
@[simp] theorem respond_c (code : ResultCode) (info : Byte) : (respond code info s).c = s.c := rfl
@[simp] theorem respond_d (code : ResultCode) (info : Byte) : (respond code info s).d = s.d := rfl
@[simp] theorem respond_pay (code : ResultCode) (info : Byte) : (respond code info s).pay = s.pay := rfl
@[simp] theorem respond_seq (code : ResultCode) (info : Byte) : (respond code info s).seq = .idle := rfl
@[simp] theorem respond_line (code : ResultCode) (info : Byte) : (respond code info s).line = s.line := rfl
@[simp] theorem respond_text (code : ResultCode) (info : Byte) : (respond code info s).text = s.text := rfl
@[simp] theorem respond_scan (code : ResultCode) (info : Byte) : (respond code info s).scan = s.scan := rfl
@[simp] theorem respond_initIdx (code : ResultCode) (info : Byte) : (respond code info s).initIdx = s.initIdx := rfl
@[simp] theorem respond_fillIdx (code : ResultCode) (info : Byte) : (respond code info s).fillIdx = s.fillIdx := rfl
@[simp] theorem respond_trace (code : ResultCode) (info : Byte) : (respond code info s).trace = s.trace := rfl
@[simp] theorem respond_responses (code : ResultCode) (info : Byte) : (respond code info s).responses = s.responses ++ [responseWord code info] := rfl
@[simp] theorem respond_host (code : ResultCode) (info : Byte) : (respond code info s).host = s.host := rfl
@[simp] theorem respond_answers (code : ResultCode) (info : Byte) : (respond code info s).answers = s.answers := rfl
@[simp] theorem respond_answerDraws (code : ResultCode) (info : Byte) : (respond code info s).answerDraws = s.answerDraws := rfl
@[simp] theorem respond_allocs (code : ResultCode) (info : Byte) : (respond code info s).allocs = s.allocs := rfl
@[simp] theorem respond_draws (code : ResultCode) (info : Byte) : (respond code info s).draws = s.draws := rfl
@[simp] theorem respond_nextAnswer (code : ResultCode) (info : Byte) (k : Nat) : (respond code info s).nextAnswer k = s.nextAnswer k := rfl

/-! ## `accept` -/

@[simp] theorem accept_devValid (h : HeaderWord) (p : List Byte) : (accept h p s).devValid = s.devValid := rfl
@[simp] theorem accept_busId (h : HeaderWord) (p : List Byte) : (accept h p s).busId = s.busId := rfl
@[simp] theorem accept_devAddr (h : HeaderWord) (p : List Byte) : (accept h p s).devAddr = s.devAddr := rfl
@[simp] theorem accept_fb (h : HeaderWord) (p : List Byte) : (accept h p s).fb = s.fb := rfl
@[simp] theorem accept_busy (h : HeaderWord) (p : List Byte) : (accept h p s).busy = true := rfl
@[simp] theorem accept_initWarn (h : HeaderWord) (p : List Byte) : (accept h p s).initWarn = s.initWarn := rfl
@[simp] theorem accept_lastResult (h : HeaderWord) (p : List Byte) : (accept h p s).lastResult = s.lastResult := rfl
@[simp] theorem accept_lastInfo (h : HeaderWord) (p : List Byte) : (accept h p s).lastInfo = s.lastInfo := rfl
@[simp] theorem accept_opc (h : HeaderWord) (p : List Byte) : (accept h p s).opc = (Header.ofWord h).opc := rfl
@[simp] theorem accept_a (h : HeaderWord) (p : List Byte) : (accept h p s).a = (Header.ofWord h).a := rfl
@[simp] theorem accept_b (h : HeaderWord) (p : List Byte) : (accept h p s).b = (Header.ofWord h).b := rfl
@[simp] theorem accept_c (h : HeaderWord) (p : List Byte) : (accept h p s).c = (Header.ofWord h).c := rfl
@[simp] theorem accept_d (h : HeaderWord) (p : List Byte) : (accept h p s).d = (Header.ofWord h).d := rfl
@[simp] theorem accept_pay (h : HeaderWord) (p : List Byte) : (accept h p s).pay = p := rfl
@[simp] theorem accept_seq (h : HeaderWord) (p : List Byte) : (accept h p s).seq = .checks := rfl
@[simp] theorem accept_line (h : HeaderWord) (p : List Byte) : (accept h p s).line = s.line := rfl
@[simp] theorem accept_text (h : HeaderWord) (p : List Byte) : (accept h p s).text = s.text := rfl
@[simp] theorem accept_scan (h : HeaderWord) (p : List Byte) : (accept h p s).scan = s.scan := rfl
@[simp] theorem accept_initIdx (h : HeaderWord) (p : List Byte) : (accept h p s).initIdx = s.initIdx := rfl
@[simp] theorem accept_fillIdx (h : HeaderWord) (p : List Byte) : (accept h p s).fillIdx = s.fillIdx := rfl
@[simp] theorem accept_trace (h : HeaderWord) (p : List Byte) : (accept h p s).trace = s.trace := rfl
@[simp] theorem accept_responses (h : HeaderWord) (p : List Byte) : (accept h p s).responses = s.responses := rfl
@[simp] theorem accept_host (h : HeaderWord) (p : List Byte) : (accept h p s).host = s.host := rfl
@[simp] theorem accept_answers (h : HeaderWord) (p : List Byte) : (accept h p s).answers = s.answers := rfl
@[simp] theorem accept_answerDraws (h : HeaderWord) (p : List Byte) : (accept h p s).answerDraws = s.answerDraws := rfl
@[simp] theorem accept_allocs (h : HeaderWord) (p : List Byte) : (accept h p s).allocs = s.allocs := rfl
@[simp] theorem accept_draws (h : HeaderWord) (p : List Byte) : (accept h p s).draws = s.draws := rfl
@[simp] theorem accept_nextAnswer (h : HeaderWord) (p : List Byte) (k : Nat) : (accept h p s).nextAnswer k = s.nextAnswer k := rfl

/-! ## `fillBytes` -/

@[simp] theorem fillBytes_devValid (at_ n : Nat) (v : Byte) : (fillBytes at_ n v s).devValid = s.devValid := rfl
@[simp] theorem fillBytes_busId (at_ n : Nat) (v : Byte) : (fillBytes at_ n v s).busId = s.busId := rfl
@[simp] theorem fillBytes_devAddr (at_ n : Nat) (v : Byte) : (fillBytes at_ n v s).devAddr = s.devAddr := rfl
theorem fillBytes_fb (at_ n : Nat) (v : Byte) : (fillBytes at_ n v s).fb = s.fb.writeRow at_ (List.replicate n v) := rfl
@[simp] theorem fillBytes_busy (at_ n : Nat) (v : Byte) : (fillBytes at_ n v s).busy = s.busy := rfl
@[simp] theorem fillBytes_initWarn (at_ n : Nat) (v : Byte) : (fillBytes at_ n v s).initWarn = s.initWarn := rfl
@[simp] theorem fillBytes_lastResult (at_ n : Nat) (v : Byte) : (fillBytes at_ n v s).lastResult = s.lastResult := rfl
@[simp] theorem fillBytes_lastInfo (at_ n : Nat) (v : Byte) : (fillBytes at_ n v s).lastInfo = s.lastInfo := rfl
@[simp] theorem fillBytes_opc (at_ n : Nat) (v : Byte) : (fillBytes at_ n v s).opc = s.opc := rfl
@[simp] theorem fillBytes_a (at_ n : Nat) (v : Byte) : (fillBytes at_ n v s).a = s.a := rfl
@[simp] theorem fillBytes_b (at_ n : Nat) (v : Byte) : (fillBytes at_ n v s).b = s.b := rfl
@[simp] theorem fillBytes_c (at_ n : Nat) (v : Byte) : (fillBytes at_ n v s).c = s.c := rfl
@[simp] theorem fillBytes_d (at_ n : Nat) (v : Byte) : (fillBytes at_ n v s).d = s.d := rfl
@[simp] theorem fillBytes_pay (at_ n : Nat) (v : Byte) : (fillBytes at_ n v s).pay = s.pay := rfl
@[simp] theorem fillBytes_seq (at_ n : Nat) (v : Byte) : (fillBytes at_ n v s).seq = s.seq := rfl
@[simp] theorem fillBytes_line (at_ n : Nat) (v : Byte) : (fillBytes at_ n v s).line = s.line := rfl
@[simp] theorem fillBytes_text (at_ n : Nat) (v : Byte) : (fillBytes at_ n v s).text = s.text := rfl
@[simp] theorem fillBytes_scan (at_ n : Nat) (v : Byte) : (fillBytes at_ n v s).scan = s.scan := rfl
@[simp] theorem fillBytes_initIdx (at_ n : Nat) (v : Byte) : (fillBytes at_ n v s).initIdx = s.initIdx := rfl
@[simp] theorem fillBytes_fillIdx (at_ n : Nat) (v : Byte) : (fillBytes at_ n v s).fillIdx = BitVec.ofNat 12 n := rfl
@[simp] theorem fillBytes_trace (at_ n : Nat) (v : Byte) : (fillBytes at_ n v s).trace = s.trace := rfl
@[simp] theorem fillBytes_responses (at_ n : Nat) (v : Byte) : (fillBytes at_ n v s).responses = s.responses := rfl
@[simp] theorem fillBytes_host (at_ n : Nat) (v : Byte) : (fillBytes at_ n v s).host = s.host := rfl
@[simp] theorem fillBytes_answers (at_ n : Nat) (v : Byte) : (fillBytes at_ n v s).answers = s.answers := rfl
@[simp] theorem fillBytes_answerDraws (at_ n : Nat) (v : Byte) : (fillBytes at_ n v s).answerDraws = s.answerDraws := rfl
@[simp] theorem fillBytes_allocs (at_ n : Nat) (v : Byte) : (fillBytes at_ n v s).allocs = s.allocs := rfl
@[simp] theorem fillBytes_draws (at_ n : Nat) (v : Byte) : (fillBytes at_ n v s).draws = s.draws := rfl
@[simp] theorem fillBytes_nextAnswer (at_ n : Nat) (v : Byte) (k : Nat) : (fillBytes at_ n v s).nextAnswer k = s.nextAnswer k := rfl

/-! ## `dropDevice` -/

@[simp] theorem dropDevice_devValid : (dropDevice s).devValid = false := rfl
@[simp] theorem dropDevice_busId : (dropDevice s).busId = s.busId := rfl
@[simp] theorem dropDevice_devAddr : (dropDevice s).devAddr = s.devAddr := rfl
@[simp] theorem dropDevice_fb : (dropDevice s).fb = s.fb := rfl
@[simp] theorem dropDevice_busy : (dropDevice s).busy = s.busy := rfl
@[simp] theorem dropDevice_initWarn : (dropDevice s).initWarn = false := rfl
@[simp] theorem dropDevice_lastResult : (dropDevice s).lastResult = s.lastResult := rfl
@[simp] theorem dropDevice_lastInfo : (dropDevice s).lastInfo = s.lastInfo := rfl
@[simp] theorem dropDevice_opc : (dropDevice s).opc = s.opc := rfl
@[simp] theorem dropDevice_a : (dropDevice s).a = s.a := rfl
@[simp] theorem dropDevice_b : (dropDevice s).b = s.b := rfl
@[simp] theorem dropDevice_c : (dropDevice s).c = s.c := rfl
@[simp] theorem dropDevice_d : (dropDevice s).d = s.d := rfl
@[simp] theorem dropDevice_pay : (dropDevice s).pay = s.pay := rfl
@[simp] theorem dropDevice_seq : (dropDevice s).seq = s.seq := rfl
@[simp] theorem dropDevice_line : (dropDevice s).line = s.line := rfl
@[simp] theorem dropDevice_text : (dropDevice s).text = s.text := rfl
@[simp] theorem dropDevice_scan : (dropDevice s).scan = s.scan := rfl
@[simp] theorem dropDevice_initIdx : (dropDevice s).initIdx = s.initIdx := rfl
@[simp] theorem dropDevice_fillIdx : (dropDevice s).fillIdx = s.fillIdx := rfl
@[simp] theorem dropDevice_trace : (dropDevice s).trace = s.trace := rfl
@[simp] theorem dropDevice_responses : (dropDevice s).responses = s.responses := rfl
@[simp] theorem dropDevice_host : (dropDevice s).host = s.host := rfl
@[simp] theorem dropDevice_answers : (dropDevice s).answers = s.answers := rfl
@[simp] theorem dropDevice_answerDraws : (dropDevice s).answerDraws = s.answerDraws := rfl
@[simp] theorem dropDevice_allocs : (dropDevice s).allocs = s.allocs := rfl
@[simp] theorem dropDevice_draws : (dropDevice s).draws = s.draws := rfl
@[simp] theorem dropDevice_nextAnswer (k : Nat) : (dropDevice s).nextAnswer k = s.nextAnswer k := rfl

/-! ## `forgetLine` -/

@[simp] theorem forgetLine_devValid : (forgetLine s).devValid = s.devValid := rfl
@[simp] theorem forgetLine_busId : (forgetLine s).busId = s.busId := rfl
@[simp] theorem forgetLine_devAddr : (forgetLine s).devAddr = s.devAddr := rfl
@[simp] theorem forgetLine_fb : (forgetLine s).fb = s.fb := rfl
@[simp] theorem forgetLine_busy : (forgetLine s).busy = s.busy := rfl
@[simp] theorem forgetLine_initWarn : (forgetLine s).initWarn = s.initWarn := rfl
@[simp] theorem forgetLine_lastResult : (forgetLine s).lastResult = s.lastResult := rfl
@[simp] theorem forgetLine_lastInfo : (forgetLine s).lastInfo = s.lastInfo := rfl
@[simp] theorem forgetLine_opc : (forgetLine s).opc = s.opc := rfl
@[simp] theorem forgetLine_a : (forgetLine s).a = s.a := rfl
@[simp] theorem forgetLine_b : (forgetLine s).b = s.b := rfl
@[simp] theorem forgetLine_c : (forgetLine s).c = s.c := rfl
@[simp] theorem forgetLine_d : (forgetLine s).d = s.d := rfl
@[simp] theorem forgetLine_pay : (forgetLine s).pay = s.pay := rfl
@[simp] theorem forgetLine_seq : (forgetLine s).seq = s.seq := rfl
@[simp] theorem forgetLine_text : (forgetLine s).text = s.text := rfl
@[simp] theorem forgetLine_scan : (forgetLine s).scan = s.scan := rfl
@[simp] theorem forgetLine_initIdx : (forgetLine s).initIdx = s.initIdx := rfl
@[simp] theorem forgetLine_fillIdx : (forgetLine s).fillIdx = s.fillIdx := rfl
@[simp] theorem forgetLine_trace : (forgetLine s).trace = s.trace := rfl
@[simp] theorem forgetLine_responses : (forgetLine s).responses = s.responses := rfl
@[simp] theorem forgetLine_host : (forgetLine s).host = s.host := rfl
@[simp] theorem forgetLine_answers : (forgetLine s).answers = s.answers := rfl
@[simp] theorem forgetLine_answerDraws : (forgetLine s).answerDraws = s.answerDraws := rfl
@[simp] theorem forgetLine_allocs : (forgetLine s).allocs = s.allocs := rfl
@[simp] theorem forgetLine_draws : (forgetLine s).draws = s.draws + 1 := rfl
@[simp] theorem forgetLine_nextAnswer (k : Nat) : (forgetLine s).nextAnswer k = s.nextAnswer k := rfl

/-! ## `forgetText` -/

@[simp] theorem forgetText_devValid : (forgetText s).devValid = s.devValid := rfl
@[simp] theorem forgetText_busId : (forgetText s).busId = s.busId := rfl
@[simp] theorem forgetText_devAddr : (forgetText s).devAddr = s.devAddr := rfl
@[simp] theorem forgetText_fb : (forgetText s).fb = s.fb := rfl
@[simp] theorem forgetText_busy : (forgetText s).busy = s.busy := rfl
@[simp] theorem forgetText_initWarn : (forgetText s).initWarn = s.initWarn := rfl
@[simp] theorem forgetText_lastResult : (forgetText s).lastResult = s.lastResult := rfl
@[simp] theorem forgetText_lastInfo : (forgetText s).lastInfo = s.lastInfo := rfl
@[simp] theorem forgetText_opc : (forgetText s).opc = s.opc := rfl
@[simp] theorem forgetText_a : (forgetText s).a = s.a := rfl
@[simp] theorem forgetText_b : (forgetText s).b = s.b := rfl
@[simp] theorem forgetText_c : (forgetText s).c = s.c := rfl
@[simp] theorem forgetText_d : (forgetText s).d = s.d := rfl
@[simp] theorem forgetText_pay : (forgetText s).pay = s.pay := rfl
@[simp] theorem forgetText_seq : (forgetText s).seq = s.seq := rfl
@[simp] theorem forgetText_line : (forgetText s).line = s.line := rfl
@[simp] theorem forgetText_scan : (forgetText s).scan = s.scan := rfl
@[simp] theorem forgetText_initIdx : (forgetText s).initIdx = s.initIdx := rfl
@[simp] theorem forgetText_trace : (forgetText s).trace = s.trace := rfl
@[simp] theorem forgetText_responses : (forgetText s).responses = s.responses := rfl
@[simp] theorem forgetText_host : (forgetText s).host = s.host := rfl
@[simp] theorem forgetText_answers : (forgetText s).answers = s.answers := rfl
@[simp] theorem forgetText_answerDraws : (forgetText s).answerDraws = s.answerDraws := rfl
@[simp] theorem forgetText_allocs : (forgetText s).allocs = s.allocs := rfl
@[simp] theorem forgetText_draws : (forgetText s).draws = s.draws + 1 := rfl
@[simp] theorem forgetText_nextAnswer (k : Nat) : (forgetText s).nextAnswer k = s.nextAnswer k := rfl

/-! ## `forgetScan` -/

@[simp] theorem forgetScan_devValid : (forgetScan s).devValid = s.devValid := rfl
@[simp] theorem forgetScan_busId : (forgetScan s).busId = s.busId := rfl
@[simp] theorem forgetScan_devAddr : (forgetScan s).devAddr = s.devAddr := rfl
@[simp] theorem forgetScan_fb : (forgetScan s).fb = s.fb := rfl
@[simp] theorem forgetScan_busy : (forgetScan s).busy = s.busy := rfl
@[simp] theorem forgetScan_initWarn : (forgetScan s).initWarn = s.initWarn := rfl
@[simp] theorem forgetScan_lastResult : (forgetScan s).lastResult = s.lastResult := rfl
@[simp] theorem forgetScan_lastInfo : (forgetScan s).lastInfo = s.lastInfo := rfl
@[simp] theorem forgetScan_opc : (forgetScan s).opc = s.opc := rfl
@[simp] theorem forgetScan_a : (forgetScan s).a = s.a := rfl
@[simp] theorem forgetScan_b : (forgetScan s).b = s.b := rfl
@[simp] theorem forgetScan_c : (forgetScan s).c = s.c := rfl
@[simp] theorem forgetScan_d : (forgetScan s).d = s.d := rfl
@[simp] theorem forgetScan_pay : (forgetScan s).pay = s.pay := rfl
@[simp] theorem forgetScan_seq : (forgetScan s).seq = s.seq := rfl
@[simp] theorem forgetScan_line : (forgetScan s).line = s.line := rfl
@[simp] theorem forgetScan_text : (forgetScan s).text = s.text := rfl
@[simp] theorem forgetScan_initIdx : (forgetScan s).initIdx = s.initIdx := rfl
@[simp] theorem forgetScan_fillIdx : (forgetScan s).fillIdx = s.fillIdx := rfl
@[simp] theorem forgetScan_trace : (forgetScan s).trace = s.trace := rfl
@[simp] theorem forgetScan_responses : (forgetScan s).responses = s.responses := rfl
@[simp] theorem forgetScan_host : (forgetScan s).host = s.host := rfl
@[simp] theorem forgetScan_answers : (forgetScan s).answers = s.answers := rfl
@[simp] theorem forgetScan_answerDraws : (forgetScan s).answerDraws = s.answerDraws := rfl
@[simp] theorem forgetScan_allocs : (forgetScan s).allocs = s.allocs := rfl
@[simp] theorem forgetScan_draws : (forgetScan s).draws = s.draws + 1 := rfl
@[simp] theorem forgetScan_nextAnswer (k : Nat) : (forgetScan s).nextAnswer k = s.nextAnswer k := rfl

/-! ## `forgetInit` -/

@[simp] theorem forgetInit_devValid : (forgetInit s).devValid = s.devValid := rfl
@[simp] theorem forgetInit_busId : (forgetInit s).busId = s.busId := rfl
@[simp] theorem forgetInit_devAddr : (forgetInit s).devAddr = s.devAddr := rfl
@[simp] theorem forgetInit_fb : (forgetInit s).fb = s.fb := rfl
@[simp] theorem forgetInit_busy : (forgetInit s).busy = s.busy := rfl
@[simp] theorem forgetInit_initWarn : (forgetInit s).initWarn = s.initWarn := rfl
@[simp] theorem forgetInit_lastResult : (forgetInit s).lastResult = s.lastResult := rfl
@[simp] theorem forgetInit_lastInfo : (forgetInit s).lastInfo = s.lastInfo := rfl
@[simp] theorem forgetInit_opc : (forgetInit s).opc = s.opc := rfl
@[simp] theorem forgetInit_a : (forgetInit s).a = s.a := rfl
@[simp] theorem forgetInit_b : (forgetInit s).b = s.b := rfl
@[simp] theorem forgetInit_c : (forgetInit s).c = s.c := rfl
@[simp] theorem forgetInit_d : (forgetInit s).d = s.d := rfl
@[simp] theorem forgetInit_pay : (forgetInit s).pay = s.pay := rfl
@[simp] theorem forgetInit_seq : (forgetInit s).seq = s.seq := rfl
@[simp] theorem forgetInit_line : (forgetInit s).line = s.line := rfl
@[simp] theorem forgetInit_text : (forgetInit s).text = s.text := rfl
@[simp] theorem forgetInit_scan : (forgetInit s).scan = s.scan := rfl
@[simp] theorem forgetInit_trace : (forgetInit s).trace = s.trace := rfl
@[simp] theorem forgetInit_responses : (forgetInit s).responses = s.responses := rfl
@[simp] theorem forgetInit_host : (forgetInit s).host = s.host := rfl
@[simp] theorem forgetInit_answers : (forgetInit s).answers = s.answers := rfl
@[simp] theorem forgetInit_answerDraws : (forgetInit s).answerDraws = s.answerDraws := rfl
@[simp] theorem forgetInit_allocs : (forgetInit s).allocs = s.allocs := rfl
@[simp] theorem forgetInit_draws : (forgetInit s).draws = s.draws + 1 := rfl
@[simp] theorem forgetInit_nextAnswer (k : Nat) : (forgetInit s).nextAnswer k = s.nextAnswer k := rfl

/-! ## `forgetFill` -/

@[simp] theorem forgetFill_devValid : (forgetFill s).devValid = s.devValid := rfl
@[simp] theorem forgetFill_busId : (forgetFill s).busId = s.busId := rfl
@[simp] theorem forgetFill_devAddr : (forgetFill s).devAddr = s.devAddr := rfl
@[simp] theorem forgetFill_fb : (forgetFill s).fb = s.fb := rfl
@[simp] theorem forgetFill_busy : (forgetFill s).busy = s.busy := rfl
@[simp] theorem forgetFill_initWarn : (forgetFill s).initWarn = s.initWarn := rfl
@[simp] theorem forgetFill_lastResult : (forgetFill s).lastResult = s.lastResult := rfl
@[simp] theorem forgetFill_lastInfo : (forgetFill s).lastInfo = s.lastInfo := rfl
@[simp] theorem forgetFill_opc : (forgetFill s).opc = s.opc := rfl
@[simp] theorem forgetFill_a : (forgetFill s).a = s.a := rfl
@[simp] theorem forgetFill_b : (forgetFill s).b = s.b := rfl
@[simp] theorem forgetFill_c : (forgetFill s).c = s.c := rfl
@[simp] theorem forgetFill_d : (forgetFill s).d = s.d := rfl
@[simp] theorem forgetFill_pay : (forgetFill s).pay = s.pay := rfl
@[simp] theorem forgetFill_seq : (forgetFill s).seq = s.seq := rfl
@[simp] theorem forgetFill_line : (forgetFill s).line = s.line := rfl
@[simp] theorem forgetFill_text : (forgetFill s).text = s.text := rfl
@[simp] theorem forgetFill_scan : (forgetFill s).scan = s.scan := rfl
@[simp] theorem forgetFill_initIdx : (forgetFill s).initIdx = s.initIdx := rfl
@[simp] theorem forgetFill_trace : (forgetFill s).trace = s.trace := rfl
@[simp] theorem forgetFill_responses : (forgetFill s).responses = s.responses := rfl
@[simp] theorem forgetFill_host : (forgetFill s).host = s.host := rfl
@[simp] theorem forgetFill_answers : (forgetFill s).answers = s.answers := rfl
@[simp] theorem forgetFill_answerDraws : (forgetFill s).answerDraws = s.answerDraws := rfl
@[simp] theorem forgetFill_allocs : (forgetFill s).allocs = s.allocs := rfl
@[simp] theorem forgetFill_draws : (forgetFill s).draws = s.draws + 1 := rfl
@[simp] theorem forgetFill_nextAnswer (k : Nat) : (forgetFill s).nextAnswer k = s.nextAnswer k := rfl

/-! ## `forgetDevice` -/

@[simp] theorem forgetDevice_devValid : (forgetDevice s).devValid = s.devValid := rfl
@[simp] theorem forgetDevice_busId : (forgetDevice s).busId = Config.freeBusId s.draws := rfl
@[simp] theorem forgetDevice_devAddr : (forgetDevice s).devAddr = Config.freeDevAddr s.draws := rfl
theorem forgetDevice_fb : (forgetDevice s).fb = s.fb.writeRow 0 ((List.range Config.fbBytes).map (Config.freeFbByte s.draws)) := rfl
@[simp] theorem forgetDevice_busy : (forgetDevice s).busy = s.busy := rfl
@[simp] theorem forgetDevice_initWarn : (forgetDevice s).initWarn = s.initWarn := rfl
@[simp] theorem forgetDevice_lastResult : (forgetDevice s).lastResult = s.lastResult := rfl
@[simp] theorem forgetDevice_lastInfo : (forgetDevice s).lastInfo = s.lastInfo := rfl
@[simp] theorem forgetDevice_opc : (forgetDevice s).opc = s.opc := rfl
@[simp] theorem forgetDevice_a : (forgetDevice s).a = s.a := rfl
@[simp] theorem forgetDevice_b : (forgetDevice s).b = s.b := rfl
@[simp] theorem forgetDevice_c : (forgetDevice s).c = s.c := rfl
@[simp] theorem forgetDevice_d : (forgetDevice s).d = s.d := rfl
@[simp] theorem forgetDevice_pay : (forgetDevice s).pay = s.pay := rfl
@[simp] theorem forgetDevice_seq : (forgetDevice s).seq = s.seq := rfl
@[simp] theorem forgetDevice_line : (forgetDevice s).line = s.line := rfl
@[simp] theorem forgetDevice_text : (forgetDevice s).text = s.text := rfl
@[simp] theorem forgetDevice_scan : (forgetDevice s).scan = s.scan := rfl
@[simp] theorem forgetDevice_initIdx : (forgetDevice s).initIdx = s.initIdx := rfl
@[simp] theorem forgetDevice_fillIdx : (forgetDevice s).fillIdx = s.fillIdx := rfl
@[simp] theorem forgetDevice_trace : (forgetDevice s).trace = s.trace := rfl
@[simp] theorem forgetDevice_responses : (forgetDevice s).responses = s.responses := rfl
@[simp] theorem forgetDevice_host : (forgetDevice s).host = s.host := rfl
@[simp] theorem forgetDevice_answers : (forgetDevice s).answers = s.answers := rfl
@[simp] theorem forgetDevice_answerDraws : (forgetDevice s).answerDraws = s.answerDraws := rfl
@[simp] theorem forgetDevice_allocs : (forgetDevice s).allocs = s.allocs := rfl
@[simp] theorem forgetDevice_draws : (forgetDevice s).draws = s.draws + 1 := rfl
@[simp] theorem forgetDevice_nextAnswer (k : Nat) : (forgetDevice s).nextAnswer k = s.nextAnswer k := rfl

/-! ## What the framebuffer reads as after a fill, and after it has become unspecified -/

theorem fillBytes_read (base n : Nat) (v : Byte) (addr : Nat) :
    (fillBytes base n v s).fb.read addr = if base ≤ addr ∧ addr < base + n then v else s.fb.read addr := by
  rw [fillBytes_fb, Memory.read_writeRow_replicate]

theorem fillBytes_wf (base n : Nat) (v : Byte) (h : s.fb.wf) (hn : base + n ≤ Config.fbBytes) :
    (fillBytes base n v s).fb.wf := by
  rw [fillBytes_fb]
  exact Memory.wf_writeRow _ _ _ h (by simpa using hn)

theorem forgetDevice_read_of_ge (addr : Nat) (h : Config.fbBytes ≤ addr) :
    (forgetDevice s).fb.read addr = s.fb.read addr := by
  rw [forgetDevice_fb, Memory.read_writeRow_of_out]
  right
  simpa using h

theorem forgetDevice_wf (h : s.fb.wf) : (forgetDevice s).fb.wf := by
  rw [forgetDevice_fb]
  exact Memory.wf_writeRow _ _ _ h (by simp)

/-! ## `dropAnswer` -/

@[simp] theorem dropAnswer_devValid : (dropAnswer s).devValid = s.devValid := by unfold dropAnswer; split <;> rfl
@[simp] theorem dropAnswer_busId : (dropAnswer s).busId = s.busId := by unfold dropAnswer; split <;> rfl
@[simp] theorem dropAnswer_devAddr : (dropAnswer s).devAddr = s.devAddr := by unfold dropAnswer; split <;> rfl
@[simp] theorem dropAnswer_fb : (dropAnswer s).fb = s.fb := by unfold dropAnswer; split <;> rfl
@[simp] theorem dropAnswer_busy : (dropAnswer s).busy = s.busy := by unfold dropAnswer; split <;> rfl
@[simp] theorem dropAnswer_initWarn : (dropAnswer s).initWarn = s.initWarn := by unfold dropAnswer; split <;> rfl
@[simp] theorem dropAnswer_lastResult : (dropAnswer s).lastResult = s.lastResult := by unfold dropAnswer; split <;> rfl
@[simp] theorem dropAnswer_lastInfo : (dropAnswer s).lastInfo = s.lastInfo := by unfold dropAnswer; split <;> rfl
@[simp] theorem dropAnswer_opc : (dropAnswer s).opc = s.opc := by unfold dropAnswer; split <;> rfl
@[simp] theorem dropAnswer_a : (dropAnswer s).a = s.a := by unfold dropAnswer; split <;> rfl
@[simp] theorem dropAnswer_b : (dropAnswer s).b = s.b := by unfold dropAnswer; split <;> rfl
@[simp] theorem dropAnswer_c : (dropAnswer s).c = s.c := by unfold dropAnswer; split <;> rfl
@[simp] theorem dropAnswer_d : (dropAnswer s).d = s.d := by unfold dropAnswer; split <;> rfl
@[simp] theorem dropAnswer_pay : (dropAnswer s).pay = s.pay := by unfold dropAnswer; split <;> rfl
@[simp] theorem dropAnswer_seq : (dropAnswer s).seq = s.seq := by unfold dropAnswer; split <;> rfl
@[simp] theorem dropAnswer_line : (dropAnswer s).line = s.line := by unfold dropAnswer; split <;> rfl
@[simp] theorem dropAnswer_text : (dropAnswer s).text = s.text := by unfold dropAnswer; split <;> rfl
@[simp] theorem dropAnswer_scan : (dropAnswer s).scan = s.scan := by unfold dropAnswer; split <;> rfl
@[simp] theorem dropAnswer_initIdx : (dropAnswer s).initIdx = s.initIdx := by unfold dropAnswer; split <;> rfl
@[simp] theorem dropAnswer_fillIdx : (dropAnswer s).fillIdx = s.fillIdx := by unfold dropAnswer; split <;> rfl
@[simp] theorem dropAnswer_trace : (dropAnswer s).trace = s.trace := by unfold dropAnswer; split <;> rfl
@[simp] theorem dropAnswer_responses : (dropAnswer s).responses = s.responses := by unfold dropAnswer; split <;> rfl
@[simp] theorem dropAnswer_host : (dropAnswer s).host = s.host := by unfold dropAnswer; split <;> rfl
@[simp] theorem dropAnswer_allocs : (dropAnswer s).allocs = s.allocs := by unfold dropAnswer; split <;> rfl
@[simp] theorem dropAnswer_draws : (dropAnswer s).draws = s.draws := by unfold dropAnswer; split <;> rfl

@[simp] theorem dropAnswer_answers : (dropAnswer s).answers = s.answers.tail := by
  unfold dropAnswer; split <;> simp [*]

/-- After a transaction the answers still to come are the ones after the next. -/
@[simp] theorem dropAnswer_nextAnswer (k : Nat) : (dropAnswer s).nextAnswer k = s.nextAnswer (k + 1) := by
  unfold dropAnswer State.nextAnswer
  cases h : s.answers with
  | nil => simp; congr 1; omega
  | cons r rest => simp

end Sys2Proof.Machine
end

