-- ==== Sys2Proof/Laws/Ops.lean ====
section
/-! SUPPORT. For each shared operation, once, everything it can do. -/

namespace Sys2Proof.Machine

open Sys2Proof.Safety

/-! ## The bus -/

/-- The state after one transaction of the given bytes (20_memory R60). -/
abbrev afterTransact (bytes : List Byte) (s : State) : State :=
  record ⟨s.busId, s.devAddr, bytes, s.nextAnswer 0⟩ (dropAnswer s)

/-- One transaction: the next answer, one more entry of the trace, nothing else changed (20_memory R60). -/
theorem busTransact_spec (bytes : List Byte) (s : State) : busTransact bytes s = (s.nextAnswer 0, afterTransact bytes s) := rfl

theorem sendCommand_spec (b : Byte) (s : State) :
    sendCommand b s = (s.nextAnswer 0, afterTransact (commandFrame b) s) := rfl

theorem sendData_spec (bs : List Byte) (s : State) :
    sendData bs s = (s.nextAnswer 0, afterTransact (dataFrame bs) s) := rfl

/-- What the coming answers depend on. -/
theorem nextAnswer_congr {s t : State} (ha : t.answers = s.answers) (hd : t.answerDraws = s.answerDraws) (k : Nat) :
    t.nextAnswer k = s.nextAnswer k := by
  simp only [State.nextAnswer, ha, hd]

/-! ## Errors, the device check, the end of an operation -/

/-- The device check answers `NO_DEVICE` or runs the operation (60_exceptions R174). -/
theorem guardDevice_cases (op : State → State) (s : State) :
    (s.devValid = true ∧ guardDevice op s = op s) ∨ (s.devValid = false ∧ guardDevice op s = respond .noDevice 0#8 s) := by
  unfold guardDevice
  cases s.devValid <;> simp

@[simp] theorem guardDevice_of_valid (op : State → State) (s : State) (h : s.devValid = true) : guardDevice op s = op s := by
  simp [guardDevice, h]

@[simp] theorem guardDevice_of_invalid (op : State → State) (s : State) (h : s.devValid = false) :
    guardDevice op s = respond .noDevice 0#8 s := by
  simp [guardDevice, h]

/-- What `respond` answers. -/
theorem respond_answered (code : ResultCode) (info : Byte) (s : State) : Answered code info s (respond code info s) :=
  ⟨rfl, rfl, rfl, rfl, rfl⟩

/-- `conclude` answers `OK`, or `BUS_ERR(e)` for `Err(e)`, and changes nothing else. -/
theorem conclude_cases (r : Answer) (s : State) :
    (r = .ok ∧ conclude r s = respond .ok 0#8 s) ∨ ∃ e, r = .err e ∧ conclude r s = respond .busErr e s := by
  cases r <;> simp

/-! ## The packet in the operand registers -/

/-- What the checks read is what the host offered (30_encoding R81). -/
@[simp] theorem latched_accept (h : HeaderWord) (payload : List Byte) (s : State) :
    (accept h payload s).latched = ⟨Header.ofWord h, payload⟩ := rfl

/-! ## The sequencers, one iteration at a time -/

theorem initRun_nil (s : State) : initRun [] s = s := rfl

theorem initRun_cons (byte : Byte) (rest : List Byte) (s : State) :
    initRun (byte :: rest) s =
      initRun rest (withInitIdx (s.initIdx + 1#6) (withInitWarn (s.initWarn || isErr (s.nextAnswer 0))
        (afterTransact (commandFrame byte) s))) := by
  rw [initRun, sendCommand_spec]
  simp

/-- The frame `PAGE_CTR` and `PHASE` point at. -/
def refreshFrame (s : State) : List Byte :=
  match s.scan.phase.toNat with
  | 0 => commandFrame (Config.encPage (s.scan.pageCtr.setWidth 4))
  | 1 => commandFrame (Config.encColLo Config.colOffset)
  | 2 => commandFrame (Config.encColHi Config.colOffset)
  | _ => dataFrame (pageRow s.scan.pageCtr.toNat s.fb)

theorem refreshSend_spec (s : State) : refreshSend s = (s.nextAnswer 0, afterTransact (refreshFrame s) s) := by
  unfold refreshSend refreshFrame
  generalize s.scan.phase.toNat = phase
  rcases phase with _ | _ | _ | phase <;> rfl

theorem refreshRun_zero (s : State) : refreshRun 0 s = (.ok, s) := rfl

/-- One transaction of a REFRESH: an `Err` ends it, an `Ok` goes on to the next (45_refresh R161). -/
theorem refreshRun_succ (n : Nat) (s : State) :
    refreshRun (n + 1) s =
      match s.nextAnswer 0 with
      | .err e => (.err e, afterTransact (refreshFrame s) s)
      | .ok => refreshRun n (withScan s.scan.advance (afterTransact (refreshFrame s) s)) := by
  rw [refreshRun, refreshSend_spec]
  cases s.nextAnswer 0 <;> simp

/-- One iteration of the point loop (43_line R141). -/
theorem lineRun_succ (n : Nat) (r : LineRegs) (m : Memory) :
    lineRun (n + 1) r m = if r.atEnd then (r, plot r m) else lineRun n r.move (plot r m) := rfl

/-- The plot of a point keeps the canonical form. -/
theorem wf_plot (r : LineRegs) (m : Memory) (hm : m.wf) : (plot r m).wf := by
  unfold plot
  split
  · next h => exact wf_writePixel m true _ _ hm h
  · exact hm

/-- The point loop keeps the canonical form. -/
theorem wf_lineRun (n : Nat) (r : LineRegs) (m : Memory) (hm : m.wf) : (lineRun n r m).2.wf := by
  induction n generalizing r m with
  | zero => exact hm
  | succ n ih =>
    rw [lineRun_succ]
    split
    · exact wf_plot r m hm
    · exact ih _ _ (wf_plot r m hm)

/-- Every supported character has six column bytes (10_state R30). -/
theorem glyphLookup_length {ch : Byte} {g : List Byte} (h : glyphLookup ch = some g) : g.length = 6 := by
  unfold glyphLookup at h
  rw [Option.map_eq_some_iff] at h
  obtain ⟨e, _, rfl⟩ := h
  simp [glyphColumns]

/-! ## One step -/

/-- What a step of a ready block can do: nothing is offered, a packet is run, or the block is reset. -/
theorem step_cases (s : State) (h : s.ready = true) :
    (s.host = [] ∧ step s = .next s) ∨
    (∃ hd pay rest, s.host = .packet hd pay :: rest ∧ step s = runPacket hd pay (withHost rest s)) ∨
    ∃ rest, s.host = .reset :: rest ∧ step s = .next (resetBlock (withHost rest s)) := by
  unfold step serveHost
  cases hh : s.host with
  | nil => simp [h]
  | cons x rest => cases x <;> simp [h]

/-- Every instruction answers a next state. -/
theorem exec_next (i : Instr) (s : State) : ∃ t, exec i s = .next t := by
  cases i <;> exact ⟨_, rfl⟩

end Sys2Proof.Machine
end

