-- ==== Sys2Proof/Laws/PerInstr.lean ====
section
/-! SUPPORT. One fact about every instruction as syntax: the operation's packet carries its row's opcode (30_encoding R82). -/

namespace Sys2Proof.Laws.OpcodeByte

/-- The opcode 30_encoding R82 gives each mnemonic. -/
def opcode (mnemonic : String) : Byte :=
  if mnemonic = "INIT" then 0x01
  else if mnemonic = "CLEAR" then 0x02
  else if mnemonic = "SET_POINT" then 0x03
  else if mnemonic = "DRAW_LINE" then 0x04
  else if mnemonic = "DRAW_TEXT" then 0x05
  else if mnemonic = "REFRESH" then 0x06
  else if mnemonic = "RELEASE" then 0x07
  else if mnemonic = "WRITE_CMD" then 0x08
  else if mnemonic = "WRITE_DATA" then 0x09
  else 0x00

/-- Bits 71:64 of the encoded header are the opcode of the instruction's mnemonic. -/
def Statement (i : Sys2Proof.Instr) : Prop :=
  (Sys2Proof.Header.ofWord (Sys2Proof.encode i).header.toWord).opc = opcode i.mnemonic

theorem init (busId : Byte) (address : BitVec 7) : Statement (.init busId address) := by
  rw [Statement, Header.ofWord_toWord]; simp [encode, opcode, Instr.mnemonic]
theorem clear (fill : Bool) : Statement (.clear fill) := by
  rw [Statement, Header.ofWord_toWord]; simp [encode, opcode, Instr.mnemonic]
theorem setPoint (x y : Half) (on : Bool) : Statement (.setPoint x y on) := by
  rw [Statement, Header.ofWord_toWord]; simp [encode, opcode, Instr.mnemonic]
theorem drawLine (x0 y0 x1 y1 : Half) : Statement (.drawLine x0 y0 x1 y1) := by
  rw [Statement, Header.ofWord_toWord]; simp [encode, opcode, Instr.mnemonic]
theorem drawText (line : Half) (text : List Byte) : Statement (.drawText line text) := by
  rw [Statement, Header.ofWord_toWord]; simp [encode, opcode, Instr.mnemonic]
theorem refresh : Statement .refresh := by
  rw [Statement, Header.ofWord_toWord]; simp [encode, opcode, Instr.mnemonic]
theorem release : Statement .release := by
  rw [Statement, Header.ofWord_toWord]; simp [encode, opcode, Instr.mnemonic]
theorem writeCmd (byte : Byte) : Statement (.writeCmd byte) := by
  rw [Statement, Header.ofWord_toWord]; simp [encode, opcode, Instr.mnemonic]
theorem writeData (bytes : List Byte) : Statement (.writeData bytes) := by
  rw [Statement, Header.ofWord_toWord]; simp [encode, opcode, Instr.mnemonic]

end Sys2Proof.Laws.OpcodeByte
end

