-- ==== Sys2Proof/Tests/Slice0.lean ====
section
/-! SUPPORT. Checks of the model against the spec's own examples (95_test_vectors: V and X numbers; 30_encoding R90), one step
each; and for every statement with hypotheses a witness that meets them. -/

namespace Sys2Proof.Tests

open Sys2Proof Sys2Proof.Machine Sys2Proof.Safety

/-! ## Small states -/

/-- The start state of the spec's vectors: a Device on bus 0 at 0x3C, an all-zero framebuffer. -/
def ready : State := { State.reset with devValid := true, devAddr := 0x3C }

/-- The same with a framebuffer. -/
def readyFb (m : Memory) : State := { ready with fb := m }

/-- The same with the transport's coming answers. -/
def readyBus (rs : List Answer) : State := { ready with answers := rs }

/-- A state whose host offers one packet. -/
def offering (h : HeaderWord) (payload : List Byte) (s : State) : State := { s with host := [.packet h payload] }

/-- The next state of a step, if there is one. -/
def after? : Host.Outcome State Fault Refusal → Option State
  | .next t => some t
  | .fault _ => none
  | .refused _ => none

/-- The response to one packet and the `STATUS` after it. -/
def answerTo (h : HeaderWord) (payload : List Byte) (s : State) : Option (List Half × Half) :=
  (after? (step (offering h payload s))).map fun t => (t.responses, t.status)

/-! ## WellFormed refuses each ill-formed term -/

theorem test_wellFormed_refuses_long_text (line : Half) :
    (Instr.drawText line (List.replicate 65536 0x41)).wellFormed = false := by
  rw [Instr.wellFormed, List.length_replicate]; rfl
theorem test_wellFormed_refuses_long_data : (Instr.writeData (List.replicate 65536 0x00)).wellFormed = false := by
  rw [Instr.wellFormed, List.length_replicate]; rfl
theorem test_wellFormed_accepts_longest_data : (Instr.writeData (List.replicate 65535 0x00)).wellFormed = true := by
  rw [Instr.wellFormed, List.length_replicate]; rfl

/-! ## Decoding: headers written out in 95_test_vectors -/

/-- V60. -/
theorem test_decode_init : decode ⟨Header.ofWord 0x010000003C00000000, []⟩ = .ok (.init 0 0x3C) := by decide
/-- V2. -/
theorem test_decode_clear : decode ⟨Header.ofWord 0x020001000000000000, []⟩ = .ok (.clear true) := by decide
/-- V14: a negative coordinate. -/
theorem test_decode_setPoint : decode ⟨Header.ofWord 0x03FFFF000000010000, []⟩ = .ok (.setPoint (-1) 0 true) := by decide
/-- V31. -/
theorem test_decode_drawLine : decode ⟨Header.ofWord 0x04FFFE000300030003, []⟩ = .ok (.drawLine (-2) 3 3 3) := by decide
/-- V42. -/
theorem test_decode_drawText :
    decode ⟨Header.ofWord 0x050003000500000000, [0x41, 0x20, 0x42, 0x21, 0x39]⟩ =
      .ok (.drawText 3 [0x41, 0x20, 0x42, 0x21, 0x39]) := by decide
/-- V50. -/
theorem test_decode_refresh : decode ⟨Header.ofWord 0x060000000000000000, []⟩ = .ok .refresh := by decide
/-- V66. -/
theorem test_decode_release : decode ⟨Header.ofWord 0x070000000000000000, []⟩ = .ok .release := by decide
/-- V71. -/
theorem test_decode_writeCmd : decode ⟨Header.ofWord 0x080081000000000000, []⟩ = .ok (.writeCmd 0x81) := by decide
/-- V73. -/
theorem test_decode_writeData :
    decode ⟨Header.ofWord 0x090003000000000000, [0xFF, 0x00, 0x81]⟩ = .ok (.writeData [0xFF, 0x00, 0x81]) := by decide
/-- V73 as the bytes of the command port (20_memory R55). -/
theorem test_decode_bytes :
    decodeBytes [0x09, 0x00, 0x03, 0x00, 0x00, 0x00, 0x00, 0x00, 0x00, 0xFF, 0x00, 0x81] =
      .ok (.writeData [0xFF, 0x00, 0x81]) := by decide
/-- V80, V81, V82: reserved opcodes. -/
theorem test_reserved_opcodes :
    decode ⟨Header.ofWord 0x000000000000000000, []⟩ = .error .reservedOpcode ∧
    decode ⟨Header.ofWord 0x0A0000000000000000, []⟩ = .error .reservedOpcode ∧
    decode ⟨Header.ofWord 0xFFFFFFFFFFFFFFFFFF, []⟩ = .error .reservedOpcode := by decide
/-- V3, V19, V57, V64, V65, V72, V87: a "zero" bit is set. -/
theorem test_reserved_bits :
    decode ⟨Header.ofWord 0x020002000000000000, []⟩ = .error .reservedBits ∧
    decode ⟨Header.ofWord 0x030001000100030000, []⟩ = .error .reservedBits ∧
    decode ⟨Header.ofWord 0x060000000000000001, []⟩ = .error .reservedBits ∧
    decode ⟨Header.ofWord 0x010000008000000000, []⟩ = .error .reservedBits ∧
    decode ⟨Header.ofWord 0x010100003C00000000, []⟩ = .error .reservedBits ∧
    decode ⟨Header.ofWord 0x080100000000000000, []⟩ = .error .reservedBits ∧
    decode ⟨Header.ofWord 0x070000000000010000, []⟩ = .error .reservedBits := by decide
/-- V5, V47, V75, V84: the payload length is not what the header says. -/
theorem test_payload_lengths :
    decode ⟨Header.ofWord 0x020000000000000000, [0x00]⟩ = .error .payloadLength ∧
    decode ⟨Header.ofWord 0x050000000300000000, [0x41, 0x42]⟩ = .error .payloadLength ∧
    decode ⟨Header.ofWord 0x090002000000000000, [0x01, 0x02, 0x03]⟩ = .error .payloadLength ∧
    decode ⟨Header.ofWord 0x0300C8000100010000, [0x78]⟩ = .error .payloadLength := by decide
/-- 30_encoding R90: the header `04 x0 y0 x1 y1`. -/
theorem test_encode_drawLine : (encode (.drawLine (-2) 3 3 3)).header.toWord = 0x04FFFE000300030003 := by decide
/-- 30_encoding R93: no header passes two rows' tests. -/
theorem test_opcode_rows_disjoint :
    opcodeTable.Pairwise fun p q => p.pattern &&& (p.mask &&& q.mask) ≠ q.pattern &&& (p.mask &&& q.mask) := by decide
/-- The table's own numbers decode to their rows' operations. -/
theorem test_table_words :
    (opcodeTable.map fun r => (decodeTableWord 72 r.pattern.toNat).map Instr.mnemonic) =
      opcodeTable.map fun r => some r.mnemonic := by decide

/-! ## Reset, status, the device check, illegal packets -/

/-- 2.10: `STATUS` after reset. -/
theorem test_reset_status : State.reset.status = 0x0000 := by decide
/-- V83, V85, V86: legality, then the device, then the range. -/
theorem test_order_of_checks :
    answerTo 0x0A0000000000000000 [] State.reset = some ([0x0005], 0x0050) ∧
    answerTo 0x0300C8000100010000 [] State.reset = some ([0x0004], 0x0040) ∧
    answerTo 0x0300C8000100010000 [] ready = some ([0x0001], 0x0012) := by decide
/-- V49: `NO_DEVICE` comes before `RANGE_ERR`. -/
theorem test_no_device_before_range : answerTo 0x050063000100000000 [0x41] State.reset = some ([0x0004], 0x0040) := by decide

/-! ## INIT and RELEASE -/

/-- V62: whatever the answers, INIT ends with `OK` and a Device. -/
theorem test_init :
    (after? (exec (.init 0 0x3C) State.reset)).map (fun t => (t.devValid, t.lastResult, t.lastInfo)) =
      some (true, .ok, 0x00) := rfl
/-- V68: the allocator answers `Fail`, with `ALLOC_CAN_FAIL` true. -/
theorem test_failed_allocation :
    (initDevice true 0 0x3C { State.reset with allocs := [.fail] }).responses = [0x0003] := by decide
/-- V66, V67, and `STATUS` after them. -/
theorem test_release :
    answerTo 0x070000000000000000 [] { ready with initWarn := true } = some ([0x0000], 0x0000) ∧
    answerTo 0x070000000000000000 [] State.reset = some ([0x0004], 0x0040) := by decide

/-! ## CLEAR and SET_POINT -/

/-- V1 on one lit byte. -/
theorem test_clear_zero : (after? (exec (.clear false) (readyFb [(131, 0x04)]))).map (fun t => (t.fb.read 130, t.fb.read 131)) =
    some (0x00, 0x00) := by decide +kernel
/-- V4. -/
theorem test_clear_no_device : answerTo 0x020000000000000000 [] State.reset = some ([0x0004], 0x0040) := by decide
/-- V10. -/
theorem test_setPoint_on : (after? (exec (.setPoint 3 10 true) ready)).map State.fb = some [(131, 0x04)] := by decide
/-- V11. -/
theorem test_setPoint_off :
    (after? (exec (.setPoint 3 10 false) (readyFb [(131, 0xFF)]))).map State.fb = some [(131, 0xFB)] := by decide

/-! ## DRAW_LINE -/

/-- V24. -/
theorem test_drawLine_steep : (after? (exec (.drawLine 0 0 1 3) ready)).map State.fb = some [(0, 0x03), (1, 0x0C)] := by decide
/-- V32: points past the right edge are not wrapped into page 1. -/
theorem test_drawLine_clipped :
    (after? (exec (.drawLine 126 0 130 4) ready)).map State.fb = some [(126, 0x01), (127, 0x02)] := by decide

/-- The pairs (ERR, E2) of V34 at its iterations but the last. -/
def errors : Nat → LineRegs → List (Int × Int)
  | 0, _ => []
  | n + 1, r => if r.atEnd then [] else (r.double.err.toInt, r.double.e2.toInt) :: errors n r.move

/-- V34. -/
theorem test_line_registers :
    errors 20 (LineRegs.start 125 120 131 131 0) =
      [(-5, -10), (-10, -20), (-4, -8), (-9, -18), (-3, -6), (-8, -16), (-2, -4), (-7, -14), (-1, -2), (-6, -12), (0, 0)] := by
  decide
/-- V36, as the path of the statements. -/
theorem test_line_path :
    linePath 10 3 0 0 =
      [(10, 3), (9, 3), (8, 2), (7, 2), (6, 2), (5, 2), (4, 1), (3, 1), (2, 1), (1, 0), (0, 0)] := by decide

/-! ## DRAW_TEXT -/

/-- V44 on two lit bytes: page 3 is cleared, page 4 kept. -/
theorem test_drawText_empty :
    (after? (exec (.drawText 3 []) (readyFb [(511, 0xFF), (512, 0xFF)]))).map (fun t => (t.fb.read 511, t.fb.read 512)) =
    some (0x00, 0xFF) := by decide +kernel
/-- V45, V46. -/
theorem test_drawText_range :
    answerTo 0x050010000000000000 [] ready = some ([0x0001], 0x0012) ∧
    answerTo 0x05FFFF000100000000 [0x41] ready = some ([0x0001], 0x0012) := by decide

/-! ## REFRESH, WRITE_CMD, WRITE_DATA -/

/-- V53. -/
theorem test_refresh_error :
    answerTo 0x060000000000000000 [] (readyBus [.ok, .ok, .ok, .ok, .err 0x01]) = some ([0x0102], 0x0122) := by decide
/-- V51. -/
theorem test_refresh_first_error :
    (after? (exec .refresh (readyBus [.err 0x55]))).map (fun t => (t.responses, t.trace.length)) = some ([0x5502], 1) := by decide
/-- V71. -/
theorem test_writeCmd_error : answerTo 0x080081000000000000 [] (readyBus [.err 0x01]) = some ([0x0102], 0x0122) := by decide
/-- V70: the transaction. -/
theorem test_writeCmd_frame :
    (after? (exec (.writeCmd 0xAF) (readyBus [.ok]))).map State.trace = some [⟨0, 0x3C, [Config.ctrlCmd, 0xAF], .ok⟩] := rfl
/-- V73. -/
theorem test_writeData_error :
    answerTo 0x090003000000000000 [0xFF, 0x00, 0x81] (readyBus [.err 0x07]) = some ([0x0702], 0x0722) := by decide
/-- V74: a transaction of one byte. -/
theorem test_writeData_empty :
    (after? (exec (.writeData []) (readyBus [.ok]))).map State.trace = some [⟨0, 0x3C, [Config.ctrlData], .ok⟩] := rfl

/-! ## Witnesses: the hypotheses of every statement that has some -/

/-- The state of the vectors meets the invariant. -/
theorem inv_ready : Inv ready := by
  constructor
  · exact Memory.wf_nil
  all_goals simp [ready, State.reset]

theorem witness_StepRunsTheDecodedPacket :
    (offering 0x020001000000000000 [] ready).seq = .idle ∧ (offering 0x020001000000000000 [] ready).busy = false ∧
    (offering 0x020001000000000000 [] ready).host = .packet 0x020001000000000000 [] :: [] ∧
    decode ⟨Header.ofWord 0x020001000000000000, []⟩ = .ok (.clear true) := by decide

theorem witness_IllegalPacketChangesNothing :
    (offering 0x020002000000000000 [] ready).seq = .idle ∧ (offering 0x020002000000000000 [] ready).busy = false ∧
    (offering 0x020002000000000000 [] ready).host = .packet 0x020002000000000000 [] :: [] ∧
    ∀ r ∈ opcodeTable, r.accepts ⟨Header.ofWord 0x020002000000000000, []⟩ = false := by decide

theorem witness_BusyBlockHasNoStep_reset :
    (State.busy { ready with busy := true, host := [.reset] }) = true ∧
    (State.host { ready with busy := true, host := [.reset] }) = .reset :: [] := by decide

theorem witness_BusyBlockHasNoStep_packet :
    (State.busy { ready with busy := true, host := [.packet 0 []] }) = true ∧
    (State.host { ready with busy := true, host := [.packet 0 []] }) = .packet 0 [] :: [] := by decide

theorem witness_ResetInputGivesTheResetState :
    (State.seq { ready with host := [.reset] }) = .idle ∧ (State.busy { ready with host := [.reset] }) = false ∧
    (State.host { ready with host := [.reset] }) = .reset :: [] := by decide

theorem witness_EveryPacketGetsOneResponse :
    Inv (offering 0xFFFFFFFFFFFFFFFFFF [0x00] ready) ∧
    (offering 0xFFFFFFFFFFFFFFFFFF [0x00] ready).host = .packet 0xFFFFFFFFFFFFFFFFFF [0x00] :: [] := by
  refine ⟨⟨Memory.wf_nil, rfl, rfl, ?_, ?_, ?_, ?_⟩, rfl⟩ <;> simp [offering, ready, State.reset]

theorem witness_DecodeEncodeRoundTrip :
    (Instr.drawText 0xFFFF [0x00]).wellFormed = true ∧
    (Instr.writeData (List.replicate 65535 0xFF)).wellFormed = true := by
  refine ⟨rfl, ?_⟩
  rw [Instr.wellFormed, List.length_replicate]; rfl

theorem witness_EveryLegalPacketIsAnEncoding :
    decode ⟨⟨0x04, 0x8000, 0x8000, 0x7FFF, 0x7FFF⟩, []⟩ = .ok (.drawLine 0x8000 0x8000 0x7FFF 0x7FFF) := by decide

theorem witness_DecoderFollowsTheOpcodeTable :
    decode ⟨⟨0x01, 0x00FF, 0x007F, 0, 0⟩, []⟩ = .ok (.init 0xFF 0x7F) ∧
    ∃ r ∈ opcodeTable, r.accepts ⟨⟨0x01, 0x00FF, 0x007F, 0, 0⟩, []⟩ = true := by decide

theorem witness_NoDeviceIsReported : State.reset.devValid = false ∧ Instr.refresh.mnemonic ≠ "INIT" := by decide

theorem witness_PowerUpStepsShape : ∃ st, initSteps[13 - 1]? = some st := ⟨initStep 12, rfl⟩

theorem witness_ReinitIsReleaseThenInit : ready.devValid = true ∧ ∃ u, exec .release ready = .next u := ⟨rfl, _, rfl⟩

theorem witness_FailedAllocationLeavesNoDevice :
    (State.allocs { State.reset with allocs := [.fail, .granted] }) = .fail :: [.granted] ∧
    ∃ t, exec (.init 0 0x3C) State.reset = .next t := ⟨rfl, _, rfl⟩

/-- ReleaseDropsTheDevice, ClearFillsTheFramebuffer, DrawLineLightsThePath, DrawLineExamples, WriteCmdSendsOneFrame,
WriteDataSendsOneFrame: a Device is all they ask; of the two sends, both answers occur. -/
theorem witness_device :
    ready.devValid = true ∧ (readyBus [.ok]).nextAnswer 0 = .ok ∧ (readyBus [.err 0x07]).nextAnswer 0 = .err 0x07 := by decide

/-- Two points of one bit can only be one point: the witness takes it twice. -/
theorem witness_PixelsAndBitsCorrespond :
    inBounds 127 127 = true ∧ inBounds 0 0 = true ∧ pixelIndex 3 10 = pixelIndex 3 10 ∧ (2047 : Nat) < 2048 ∧ (7 : Nat) < 8 := by
  decide

/-- SetPointWritesOneBit and SetPointReadsBack in bounds, at two corners. -/
theorem witness_SetPointWritesOneBit :
    ready.devValid = true ∧ inBounds (0 : Half).toInt (0 : Half).toInt = true ∧
    inBounds (127 : Half).toInt (127 : Half).toInt = true := by decide

/-- SetPointReadsBack out of bounds. -/
theorem witness_SetPointReadsBack_out : ready.devValid = true ∧ inBounds (128 : Half).toInt (0 : Half).toInt = false := by decide

/-- Each of the four ways out of bounds, at its boundary. -/
theorem witness_SetPointOutOfBoundsChangesNothing :
    ready.devValid = true ∧ (0xFFFF : Half).toInt < 0 ∧ 128 ≤ (128 : Half).toInt := by decide

/-- A count at and above the length; two consecutive points; a line longer along x, along y and a diagonal. -/
theorem witness_LineTakesMaxPlusOneIterations :
    lineLength 0 0 2 1 ≤ 3 ∧ (linePath 0 0 2 1)[1]? = some (1, 0) ∧ (linePath 0 0 2 1)[1 + 1]? = some (2, 1) ∧
    ((1 : Int) - 0).natAbs ≤ ((2 : Int) - 0).natAbs ∧ ((1 : Int) - 0).natAbs ≤ ((3 : Int) - 0).natAbs ∧
    (LineRegs.start 0 0 2 1 0).iterations ≤ 3 := by decide

theorem witness_LineRegistersHoldTheIntegers :
    65535 < lineLength (0x8000 : Half).toInt (0x8000 : Half).toInt (0x7FFF : Half).toInt (0x7FFF : Half).toInt := by
  simp [lineLength]

theorem witness_AxisAlignedAndDiagonalLines : ((5 : Int) - 0).natAbs = ((-5 : Int) - 0).natAbs := by decide

theorem witness_LineDirectionMatters : ready.devValid = true ∧ ready.fb = [] := by decide

/-- The ends of the supported ranges have glyphs, their neighbours have none. -/
theorem witness_SupportedCharactersHaveGlyphs :
    (∃ g, glyphLookup 0x20 = some g) ∧ (∃ g, glyphLookup 0x30 = some g) ∧ (∃ g, glyphLookup 0x5A = some g) ∧
    glyphLookup 0x22 = none ∧ glyphLookup 0x2F = none ∧ glyphLookup 0x3A = none ∧ glyphLookup 0x5B = none :=
  ⟨⟨_, rfl⟩, ⟨_, rfl⟩, ⟨_, rfl⟩, rfl, rfl, rfl, rfl⟩

/-- DrawTextWritesThePage (also DrawTextTwoGlyphs) at its last line, DrawTextOutOfRangeChangesNothing at its first. -/
theorem witness_DrawText :
    ready.devValid = true ∧ (15 : Half).toNat < 16 ∧ 16 ≤ (16 : Half).toNat ∧ 16 ≤ (0xFFFF : Half).toNat := by decide

theorem nextAnswer_readyBus {rs : List Answer} {k : Nat} {r : Answer} (h : rs[k]? = some r) :
    (readyBus rs).nextAnswer k = r := by
  have e : (readyBus rs).answers = rs := rfl
  simp only [State.nextAnswer, e, h]

/-- The transport answers `Ok` `n` times and then `e`. -/
def okThen (n : Nat) (e : Byte) : State := readyBus (List.replicate n .ok ++ [.err e])

theorem okThen_ok (n : Nat) (e : Byte) (k : Nat) (h : k < n) : (okThen n e).nextAnswer k = .ok := by
  refine nextAnswer_readyBus ?_
  rw [List.getElem?_append_left (by simpa using h), List.getElem?_replicate, if_pos h]

theorem okThen_err (n : Nat) (e : Byte) : (okThen n e).nextAnswer n = .err e := nextAnswer_readyBus (by simp)

theorem witness_RefreshSendsTheWholeFrame :
    (okThen 64 0).devValid = true ∧ ∀ k, k < 64 → (okThen 64 0).nextAnswer k = .ok := ⟨rfl, okThen_ok 64 0⟩

/-- RefreshStopsAtTheFirstError at the first and at the last transaction. -/
theorem witness_RefreshStopsAtTheFirstError :
    ((∀ k, k < 0 → (okThen 0 0x55).nextAnswer k = .ok) ∧ (okThen 0 0x55).nextAnswer 0 = .err 0x55) ∧
    (∀ k, k < 63 → (okThen 63 0xFF).nextAnswer k = .ok) ∧ (okThen 63 0xFF).nextAnswer 63 = .err 0xFF :=
  ⟨⟨okThen_ok _ _, okThen_err _ _⟩, okThen_ok _ _, okThen_err _ _⟩

/-- RefreshDataTransactions: a failing data frame (page 2, V52) and a failing first command (page 1, V53). -/
theorem witness_RefreshDataTransactions :
    ((∀ k, k < 4 * 2 + 3 → (okThen 11 0x07).nextAnswer k = .ok) ∧ (okThen 11 0x07).nextAnswer (4 * 2 + 3) = .err 0x07) ∧
    (∀ k, k < 4 * 1 + 0 → (okThen 4 0x01).nextAnswer k = .ok) ∧ (okThen 4 0x01).nextAnswer (4 * 1 + 0) = .err 0x01 :=
  ⟨⟨okThen_ok _ _, okThen_err _ _⟩, okThen_ok _ _, okThen_err _ _⟩

theorem witness_DrawingNeverReachesTheBus :
    (Instr.drawLine 0 0 5 5).mnemonic ∈ ["CLEAR", "SET_POINT", "DRAW_LINE", "DRAW_TEXT", "RELEASE"] ∧
    ∃ t, exec (.drawLine 0 0 5 5) ready = .next t := ⟨by decide, _, rfl⟩

theorem witness_SendingLeavesTheFramebuffer :
    Instr.refresh.mnemonic ∈ ["REFRESH", "WRITE_CMD", "WRITE_DATA"] ∧
    ∃ t, exec .refresh (readyFb [(0, 0x01)]) = .next t := ⟨by decide, _, rfl⟩

/-- TraceGrowsByFrames (also OperationsKeepTheOperandRegisters), at an INIT. -/
theorem witness_TraceGrowsByFrames :
    (Instr.init 2 0x3C).wellFormed = true ∧ ∃ t, exec (.init 2 0x3C) State.reset = .next t := ⟨rfl, _, rfl⟩

theorem witness_OnlyInitAndReleaseChangeTheDevice :
    (Instr.writeCmd 0xAF).mnemonic ≠ "INIT" ∧ (Instr.writeCmd 0xAF).mnemonic ≠ "RELEASE" ∧
    ∃ t, exec (.writeCmd 0xAF) ready = .next t := ⟨by decide, by decide, _, rfl⟩

theorem witness_StepKeepsTheInvariant : Inv ready ∧ ∃ t, step ready = .next t := ⟨inv_ready, _, rfl⟩

/-- Two states that differ in an operand register, a working register and the framebuffer of no Device. -/
theorem witness_UnspecifiedValuesAreNeverObserved :
    SameView State.reset { State.reset with opc := 0x07, fillIdx := 9, fb := [(0, 0x01)], busId := 1, draws := 5 } ∧
    ∃ t, step State.reset = .next t := by
  refine ⟨⟨rfl, ?_, ?_, ?_, rfl, rfl, rfl, rfl, rfl, rfl, rfl⟩, _, rfl⟩ <;> simp [State.reset]

end Sys2Proof.Tests
end

section
/-! The bytes and bits of the framebuffer, read back as pixels (00_scope R16, 20_memory R50, R54): quotient and remainder
of a byte index by the width give the page and the column, and the bit number gives the row inside the page. -/

namespace Sys2Proof.Machine

/-- The page of a pixel from its byte index. -/
theorem pixelIndex_div_width {x y : Int} (h : inBounds x y = true) : pixelIndex x y / Config.width = y.toNat / 8 := by
  rw [inBounds_iff] at h
  simp only [pixelIndex, Config.width]
  omega

/-- The column of a pixel from its byte index. -/
theorem pixelIndex_mod_width {x y : Int} (h : inBounds x y = true) : pixelIndex x y % Config.width = x.toNat := by
  rw [inBounds_iff] at h
  simp only [pixelIndex, Config.width]
  omega

/-- A pixel is determined by its byte and its bit: equal bytes give equal columns and pages, and in one page equal bits
give equal rows. -/
theorem pixel_eq_of_index_eq_of_bit_eq {x y x' y' : Int} (h : inBounds x y = true) (h' : inBounds x' y' = true)
    (index : pixelIndex x y = pixelIndex x' y') (bit : y.toNat % 8 = y'.toNat % 8) : x = x' ∧ y = y' := by
  have column : x.toNat = x'.toNat := by rw [← pixelIndex_mod_width h, index, pixelIndex_mod_width h']
  have page : y.toNat / 8 = y'.toNat / 8 := by rw [← pixelIndex_div_width h, index, pixelIndex_div_width h']
  rw [inBounds_iff] at h h'
  omega

/-- The pixel at a byte and a bit: the column is `addr % 128` and the row is `addr / 128 * 8 + bit`. -/
theorem exists_pixel_of_index_of_bit {addr bit : Nat} (haddr : addr < 2048) (hbit : bit < 8) :
    ∃ x y, inBounds x y = true ∧ pixelIndex x y = addr ∧ y.toNat % 8 = bit := by
  refine ⟨(addr % 128 : Nat), (addr / 128 * 8 + bit : Nat), ?inside, ?index, ?bit⟩
  case inside => rw [inBounds_iff]; omega
  case index => simp only [pixelIndex, Config.width, Int.toNat_natCast]; omega
  case bit => rw [Int.toNat_natCast]; omega

/-- Settles O21: the byte index has the page and the column as quotient and remainder, so byte and bit determine the
pixel, and every byte and bit is reached. -/
theorem pixelsAndBitsCorrespond : Obligations.PixelsAndBitsCorrespond :=
  ⟨pixelIndex_lt, fun _ _ _ _ => pixel_eq_of_index_eq_of_bit_eq, fun _ _ => exists_pixel_of_index_of_bit⟩

end Sys2Proof.Machine
end

section
/-! What one operation does as a whole, said once: its body past the device check, the equation of each body, the cases of
`exec` and of an accepted packet, and what the two loops that send leave unchanged. -/

namespace Sys2Proof.Machine

/-! ## The bodies of the operations -/

/-- The body of an operation, past the device check (60_exceptions R174 step 2). -/
def operation (i : Instr) (s : State) : State :=
  match i with
  | .init busId address => initDevice Config.allocCanFail busId address s
  | .clear fill => clearScreen fill s
  | .setPoint x y on => setPoint (coord x) (coord y) on s
  | .drawLine x0 y0 x1 y1 => drawLine x0 y0 x1 y1 s
  | .drawText line text => drawText (unsigned line) text s
  | .refresh => refreshPanel s
  | .release => releaseDevice s
  | .writeCmd byte => writeCmd byte s
  | .writeData bytes => writeData bytes s

/-- INIT always runs its body, every other operation where there is a Device. -/
theorem exec_eq_operation {i : Instr} {s : State} (h : i.mnemonic = "INIT" ∨ s.devValid = true) :
    exec i s = .next (operation i s) := by
  cases i with
  | init => rfl
  | _ =>
    have valid : s.devValid = true := h.resolve_left (by simp [Instr.mnemonic])
    exact congrArg Host.Outcome.next (guardDevice_of_valid _ s valid)

/-- Without a Device every operation but INIT ends at the device check. -/
theorem exec_eq_noDevice {i : Instr} {s : State} (hi : i.mnemonic ≠ "INIT") (hs : s.devValid = false) :
    exec i s = .next (respond .noDevice 0#8 s) := by
  cases i with
  | init => exact absurd rfl hi
  | _ => exact congrArg Host.Outcome.next (guardDevice_of_invalid _ s hs)

/-- Everything an operation can do: run its body, or answer `NO_DEVICE`. -/
theorem exec_cases {i : Instr} {s t : State} (h : exec i s = .next t) :
    ((i.mnemonic = "INIT" ∨ s.devValid = true) ∧ t = operation i s) ∨ t = respond .noDevice 0#8 s := by
  by_cases runs : i.mnemonic = "INIT" ∨ s.devValid = true
  · rw [exec_eq_operation runs] at h
    exact .inl ⟨runs, (Host.Outcome.next.inj h).symm⟩
  · rw [not_or, Bool.not_eq_true] at runs
    rw [exec_eq_noDevice runs.1 runs.2] at h
    exact .inr (Host.Outcome.next.inj h).symm

/-- An accepted packet is the operation it decodes to, or is answered `ILLEGAL_OP` (30_encoding R81, R87). -/
theorem runPacket_cases (h : HeaderWord) (payload : List Byte) :
    (∃ i, decode ⟨Header.ofWord h, payload⟩ = .ok i ∧ ∀ s, runPacket h payload s = exec i (accept h payload s)) ∨
    ∀ s, runPacket h payload s = .next (respond .illegalOp 0#8 (accept h payload s)) := by
  cases decoded : decode ⟨Header.ofWord h, payload⟩ with
  | ok i => exact .inl ⟨i, rfl, fun s => by simp [runPacket, decoded]⟩
  | error e => exact .inr fun s => by simp [runPacket, decoded]

/-- Only a ready block has a step (10_state R24, log 16). -/
theorem ready_of_step_next {s t : State} (h : step s = .next t) : s.ready = true := by
  unfold step serveHost at h
  by_contra notReady
  split at h <;> simp [notReady] at h

theorem step_of_nil {s : State} (ready : s.ready = true) (host : s.host = []) : step s = .next s := by
  simp [step, serveHost, ready, host]

theorem step_of_packet {s : State} {hd : HeaderWord} {payload : List Byte} {rest : List HostInput} (ready : s.ready = true)
    (host : s.host = .packet hd payload :: rest) : step s = runPacket hd payload (withHost rest s) := by
  simp [step, serveHost, ready, host]

theorem step_of_reset {s : State} {rest : List HostInput} (ready : s.ready = true) (host : s.host = .reset :: rest) :
    step s = .next (resetBlock (withHost rest s)) := by
  simp [step, serveHost, ready, host]

/-! ## The equation of each body -/

theorem writeCmd_eq (byte : Byte) (s : State) :
    writeCmd byte s = conclude (s.nextAnswer 0) (afterTransact (commandFrame byte) (enter .writeCmd s)) := rfl

theorem writeData_eq (bytes : List Byte) (s : State) :
    writeData bytes s = conclude (s.nextAnswer 0) (afterTransact (dataFrame bytes) (enter .writeData s)) := rfl

/-- REFRESH before its first transaction. -/
def refreshStart (s : State) : State := withScan ⟨0#5, 0#2⟩ (enter .refresh s)

theorem refreshPanel_eq (s : State) :
    refreshPanel s = conclude (refreshRun refreshCount (refreshStart s)).1
      (forgetScan (refreshRun refreshCount (refreshStart s)).2) := rfl

/-- The framebuffer after the point loop of a line; what `E2` holds before the loop has no effect
(`lineMemory_e2`). -/
def lineMemory (x0 y0 x1 y1 : Half) (e2 : BitVec 19) (m : Memory) : Memory :=
  (lineRun (LineRegs.start x0 y0 x1 y1 e2).iterations (LineRegs.start x0 y0 x1 y1 e2) m).2

theorem drawLine_eq (x0 y0 x1 y1 : Half) (s : State) :
    drawLine x0 y0 x1 y1 s = complete (forgetLine (withLine
      (lineRun (LineRegs.start x0 y0 x1 y1 s.line.e2).iterations (LineRegs.start x0 y0 x1 y1 s.line.e2) s.fb).1
      (withFb (lineMemory x0 y0 x1 y1 s.line.e2 s.fb) (enter .drawLine s)))) := rfl

/-- DRAW_TEXT once it has cleared its page (44_text R151). -/
def clearedPage (line : Nat) (s : State) : State :=
  fillBytes (pageBase line) Config.width 0x00#8 (enter .drawText s)

/-- One iteration of the character loop (44_text R151, R152). -/
theorem textRun_cons (base : Nat) (ch : Byte) (rest : List Byte) (t : TextRegs) (m : Memory) :
    textRun base (ch :: rest) t m = if t.cursor.toNat > Config.width - Config.glyphW then (t, m)
      else textRun base rest (textStep base ch t m).1 (textStep base ch t m).2 := rfl

/-- DRAW_TEXT writes its page, or answers `RANGE_ERR`, by its line alone (44_text R150, R151). -/
theorem drawText_cases (line : Nat) (text : List Byte) :
    (line < Config.pages ∧ ∀ s, drawText line text s = complete (forgetText (withText
      (textRun (pageBase line) text ⟨0#8, 0#16⟩ (clearedPage line s).fb).1
      (withFb (textRun (pageBase line) text ⟨0#8, 0#16⟩ (clearedPage line s).fb).2 (clearedPage line s))))) ∨
    ∀ s, drawText line text s = respond .rangeErr 0#8 s := by
  by_cases inRange : line < Config.pages
  · exact .inl ⟨inRange, fun s => if_pos inRange⟩
  · exact .inr fun s => if_neg inRange

/-- SET_POINT writes one pixel, or answers `RANGE_ERR`, by its coordinates alone (42_clear_point R132). -/
theorem setPoint_cases (x y : Int) (on : Bool) :
    (inBounds x y = true ∧ ∀ s, setPoint x y on s = complete (withFb (s.fb.writePixel on x y) (enter .setPoint s))) ∨
    ∀ s, setPoint x y on s = respond .rangeErr 0#8 s := by
  by_cases inside : inBounds x y = true
  · exact .inl ⟨inside, fun s => if_pos inside⟩
  · exact .inr fun s => if_neg inside

/-- The new Device before its power-up sequence: latched, its framebuffer zeroed, and already counted as valid, which
`initRun` does not look at (`initRun_withDevValid`). -/
def freshDevice (busId : Byte) (address : BitVec 7) (s : State) : State :=
  withDevValid true (fillBytes 0 Config.fbBytes 0x00#8 (latchDevice busId address (dropDevice (enter .init s))))

theorem dropAnswer_withDevValid (v : Bool) (s : State) : dropAnswer (withDevValid v s) = withDevValid v (dropAnswer s) := by
  unfold dropAnswer withDevValid
  cases s.answers <;> rfl

/-- The power-up sequence neither reads nor writes `DEV_VALID`. -/
theorem initRun_withDevValid (v : Bool) (bytes : List Byte) (s : State) :
    initRun bytes (withDevValid v s) = withDevValid v (initRun bytes s) := by
  induction bytes generalizing s with
  | nil => rfl
  | cons byte rest ih =>
    rw [initRun_cons, initRun_cons, ← ih, afterTransact, dropAnswer_withDevValid]
    rfl

/-- INIT, with `DEV_VALID` set before the sequence and not after it (41_init R120; `ALLOC_CAN_FAIL` is false: R122). -/
theorem initDevice_eq (busId : Byte) (address : BitVec 7) (s : State) :
    initDevice Config.allocCanFail busId address s =
      complete (forgetInit (initRun initBytes (withInitIdx 0#6 (freshDevice busId address s)))) := by
  have early := initRun_withDevValid true initBytes
    (withInitIdx 0#6 (fillBytes 0 Config.fbBytes 0x00#8 (latchDevice busId address (dropDevice (enter .init s)))))
  exact congrArg (fun t => complete (forgetInit t)) early.symm

/-! ## What the sequencers that send leave unchanged -/

/-- `dropAnswer` changes the two fields of the coming answers and no other. -/
theorem dropAnswer_frame (s : State) :
    ∃ answers draws, dropAnswer s = { s with answers := answers, answerDraws := draws } := by
  unfold dropAnswer
  split
  · exact ⟨_, s.answerDraws, rfl⟩
  · exact ⟨s.answers, _, rfl⟩

/-- The power-up sequence changes the trace, the coming answers, `INIT_IDX` and `INIT_WARN`, and nothing else. -/
theorem initRun_frame (bytes : List Byte) (s : State) :
    ∃ trace answers draws idx warn, initRun bytes s =
      { s with trace := trace, answers := answers, answerDraws := draws, initIdx := idx, initWarn := warn } := by
  induction bytes generalizing s with
  | nil => exact ⟨_, _, _, _, _, rfl⟩
  | cons byte rest ih =>
    rw [initRun_cons, afterTransact]
    obtain ⟨answers, draws, dropped⟩ := dropAnswer_frame s
    rw [dropped]
    obtain ⟨_, _, _, _, _, run⟩ := ih _
    exact ⟨_, _, _, _, _, run⟩

/-- The page loop changes the trace, the coming answers, `PAGE_CTR` and `PHASE`, and nothing else. -/
theorem refreshRun_frame (n : Nat) (s : State) :
    ∃ trace answers draws scan, (refreshRun n s).2 =
      { s with trace := trace, answers := answers, answerDraws := draws, scan := scan } := by
  induction n generalizing s with
  | zero => exact ⟨_, _, _, _, rfl⟩
  | succ n ih =>
    rw [refreshRun_succ, afterTransact]
    obtain ⟨answers, draws, dropped⟩ := dropAnswer_frame s
    rw [dropped]
    cases s.nextAnswer 0 with
    | err e => exact ⟨_, _, _, _, rfl⟩
    | ok =>
      obtain ⟨_, _, _, _, run⟩ := ih _
      exact ⟨_, _, _, _, run⟩

end Sys2Proof.Machine
end

section
/-! The `STATUS` word and the glyph table, field by field and code by code (10_state R26, R31). -/

namespace Sys2Proof.Machine

open Sys2Proof.Safety

/-- The bits of `STATUS`, lowest first (10_state R26). -/
theorem status_getLsbD (s : State) (k : Nat) :
    s.status.getLsbD k =
      match k with
      | 0 => s.busy
      | 1 => s.devValid
      | 2 => s.initWarn
      | 3 => false
      | i + 4 => if i < 4 then s.lastResult.number.getLsbD i else s.lastInfo.getLsbD (i - 4) := by
  unfold State.status
  simp only [BitVec.getLsbD_append, BitVec.getLsbD_ofBool, BitVec.getLsbD_zero]
  rcases k with _ | _ | _ | _ | i <;> simp

/-- Settles O2: a field of `STATUS` is read back bit by bit. -/
theorem statusWordLayout : Obligations.StatusWordLayout := by
  intro s
  refine ⟨status_getLsbD s 0, status_getLsbD s 1, status_getLsbD s 2, status_getLsbD s 3, ?code, ?info⟩
  case code =>
    ext i hi
    rw [BitVec.getElem_extractLsb', Nat.add_comm, status_getLsbD]
    simp [hi]
  case info =>
    ext i hi
    rw [BitVec.getElem_extractLsb', show 8 + i = i + 4 + 4 by omega, status_getLsbD]
    simp [BitVec.getLsbD_eq_getElem, hi]

/-- Different result codes have different numbers (60_exceptions R171). -/
theorem ResultCode.number_injective : Function.Injective ResultCode.number := by
  intro c d
  cases c <;> cases d <;> simp [ResultCode.number]

/-- Two states show the same `STATUS` exactly where its five registers agree. -/
theorem status_eq_iff {s t : State} :
    t.status = s.status ↔ t.busy = s.busy ∧ t.devValid = s.devValid ∧ t.initWarn = s.initWarn ∧
      t.lastResult = s.lastResult ∧ t.lastInfo = s.lastInfo := by
  constructor
  · intro h
    obtain ⟨busy, valid, warn, -, code, info⟩ := statusWordLayout s
    obtain ⟨busy', valid', warn', -, code', info'⟩ := statusWordLayout t
    rw [← busy, ← valid, ← warn, ← info, ← busy', ← valid', ← warn', ← info', h]
    exact ⟨rfl, rfl, rfl, ResultCode.number_injective (by rw [← code, ← code', h]), rfl⟩
  · rintro ⟨busy, valid, warn, code, info⟩
    simp only [State.status, busy, valid, warn, code, info]

/-- The 38 supported codes (10_state R31). -/
theorem glyphEntry_isSome_iff (ch : Byte) :
    (glyphEntry ch).isSome = true ↔ ch.toNat = 0x20 ∨ ch.toNat = 0x21 ∨ (0x30 ≤ ch.toNat ∧ ch.toNat ≤ 0x39) ∨
      (0x41 ≤ ch.toNat ∧ ch.toNat ≤ 0x5A) := by
  unfold glyphEntry
  split_ifs <;> simp only [Option.isSome_some, Option.isSome_none, true_iff, Bool.false_eq_true, false_iff] <;> omega

/-- Settles O31: a code has a glyph where it has an entry of the glyph ROM, and an entry is six bytes. -/
theorem supportedCharactersHaveGlyphs : Obligations.SupportedCharactersHaveGlyphs := by
  intro ch
  refine ⟨?_, fun g => glyphLookup_length⟩
  rw [glyphLookup, Option.isSome_map]
  exact glyphEntry_isSome_iff ch

end Sys2Proof.Machine
end

section
/-! What the operations leave unchanged: the framebuffer by those that only send, the device registers by all but INIT and
RELEASE, the operand registers by all (10_state R21, R25, R26, R29). -/

namespace Sys2Proof.Machine

open Sys2Proof.Safety

/-! ## The framebuffer -/

/-- The three operations that only send. -/
theorem sends_iff (i : Instr) : i.mnemonic ∈ ["REFRESH", "WRITE_CMD", "WRITE_DATA"] ↔
    i = .refresh ∨ (∃ byte, i = .writeCmd byte) ∨ ∃ bytes, i = .writeData bytes := by
  cases i <;> simp [Instr.mnemonic]

theorem refreshPanel_fb (s : State) : (refreshPanel s).fb = s.fb := by
  obtain ⟨_, _, _, _, run⟩ := refreshRun_frame refreshCount (refreshStart s)
  rw [refreshPanel_eq, conclude_eq, run]
  rfl

/-- Settles O41: none of the three bodies writes `FB`, nor does the answer `NO_DEVICE`. -/
theorem sendingLeavesTheFramebuffer : Obligations.SendingLeavesTheFramebuffer := by
  intro i s t sends h
  obtain ⟨-, rfl⟩ | rfl := exec_cases h
  · rcases (sends_iff i).1 sends with rfl | ⟨byte, rfl⟩ | ⟨bytes, rfl⟩
    · exact refreshPanel_fb s
    · simp [operation, writeCmd_eq, conclude_eq]
    · simp [operation, writeData_eq, conclude_eq]
  · rfl

/-! ## The device registers -/

/-- The page loop keeps the device registers. -/
theorem refreshPanel_sameDevice (s : State) : SameDevice s (refreshPanel s) := by
  obtain ⟨_, _, _, _, run⟩ := refreshRun_frame refreshCount (refreshStart s)
  rw [refreshPanel_eq, conclude_eq, run]
  exact ⟨rfl, rfl, rfl, rfl⟩

/-- The body of an operation other than INIT and RELEASE keeps the device registers. -/
theorem operation_sameDevice (i : Instr) (s : State) (notInit : i.mnemonic ≠ "INIT") (notRelease : i.mnemonic ≠ "RELEASE") :
    SameDevice s (operation i s) := by
  cases i with
  | init => exact absurd rfl notInit
  | release => exact absurd rfl notRelease
  | clear fill => exact ⟨rfl, rfl, rfl, rfl⟩
  | setPoint x y on =>
    change SameDevice s (setPoint (coord x) (coord y) on s)
    obtain ⟨-, eq⟩ | eq := setPoint_cases (coord x) (coord y) on <;> rw [eq] <;> exact ⟨rfl, rfl, rfl, rfl⟩
  | drawLine x0 y0 x1 y1 => exact ⟨rfl, rfl, rfl, rfl⟩
  | drawText line text =>
    change SameDevice s (drawText (unsigned line) text s)
    obtain ⟨-, eq⟩ | eq := drawText_cases (unsigned line) text <;> rw [eq] <;> exact ⟨rfl, rfl, rfl, rfl⟩
  | refresh => exact refreshPanel_sameDevice s
  | writeCmd byte => simp [SameDevice, operation, writeCmd_eq, conclude_eq]
  | writeData bytes => simp [SameDevice, operation, writeData_eq, conclude_eq]

/-- Settles O43: the seven bodies keep the device registers, and so does the answer `NO_DEVICE`. -/
theorem onlyInitAndReleaseChangeTheDevice : Obligations.OnlyInitAndReleaseChangeTheDevice := by
  intro i s t notInit notRelease h
  obtain ⟨-, rfl⟩ | rfl := exec_cases h
  · exact operation_sameDevice i s notInit notRelease
  · exact ⟨rfl, rfl, rfl, rfl⟩

/-! ## The operand registers and what waits outside -/

/-- The operand registers, the waiting inputs and the allocator's coming answers are unchanged. -/
def SameInputs (s t : State) : Prop := SameOperands s t ∧ SameHost s t

theorem sameInputs_refl (s : State) : SameInputs s s := ⟨⟨rfl, rfl, rfl, rfl, rfl, rfl⟩, rfl, rfl⟩

/-- INIT keeps the operand registers and what waits outside. -/
theorem initDevice_sameInputs (busId : Byte) (address : BitVec 7) (s : State) :
    SameInputs s (initDevice Config.allocCanFail busId address s) := by
  obtain ⟨_, _, _, _, _, run⟩ := initRun_frame initBytes (withInitIdx 0#6 (freshDevice busId address s))
  rw [initDevice_eq, run]
  exact sameInputs_refl s

/-- REFRESH keeps the operand registers and what waits outside. -/
theorem refreshPanel_sameInputs (s : State) : SameInputs s (refreshPanel s) := by
  obtain ⟨_, _, _, _, run⟩ := refreshRun_frame refreshCount (refreshStart s)
  rw [refreshPanel_eq, conclude_eq, run]
  exact sameInputs_refl s

/-- Every body keeps the operand registers and what waits outside. -/
theorem operation_sameInputs (i : Instr) (s : State) : SameInputs s (operation i s) := by
  cases i with
  | init busId address => exact initDevice_sameInputs busId address s
  | clear fill => exact sameInputs_refl s
  | setPoint x y on =>
    change SameInputs s (setPoint (coord x) (coord y) on s)
    obtain ⟨-, eq⟩ | eq := setPoint_cases (coord x) (coord y) on <;> rw [eq] <;> exact sameInputs_refl s
  | drawLine x0 y0 x1 y1 => exact sameInputs_refl s
  | drawText line text =>
    change SameInputs s (drawText (unsigned line) text s)
    obtain ⟨-, eq⟩ | eq := drawText_cases (unsigned line) text <;> rw [eq] <;> exact sameInputs_refl s
  | refresh => exact refreshPanel_sameInputs s
  | release => exact sameInputs_refl s
  | writeCmd byte => simp [SameInputs, SameOperands, SameHost, operation, writeCmd_eq, conclude_eq]
  | writeData bytes => simp [SameInputs, SameOperands, SameHost, operation, writeData_eq, conclude_eq]

/-- Settles O44: the nine bodies keep the operand registers and what waits outside, and so does the answer `NO_DEVICE`. -/
theorem operationsKeepTheOperandRegisters : Obligations.OperationsKeepTheOperandRegisters := by
  intro i s t h
  obtain ⟨-, rfl⟩ | rfl := exec_cases h
  · exact operation_sameInputs i s
  · exact sameInputs_refl s

end Sys2Proof.Machine
end

section
/-! The invariant (10_state R24, R26, 20_memory R50, R52, 60_exceptions R176): three of its clauses hold inside an operation
too, and the response that ends the operation gives the other four. -/

namespace Sys2Proof.Machine

open Sys2Proof.Safety

/-! ## Packets and frames -/

/-- What the decoder accepts stands for a packet: a payload's length is a 16-bit field (30_encoding R84, R86). -/
theorem wellFormed_of_decode {p : Packet} {i : Instr} (h : decode p = .ok i) : i.wellFormed = true := by
  have fits (v : Half) : v.toNat ≤ Config.maxPayload := Nat.le_pred_of_lt v.isLt
  unfold decode at h
  split at h
  case h_10 => cases h
  all_goals
    obtain ⟨-, length, rfl⟩ := legalIf_eq_ok.1 h
    simp_all [Instr.wellFormed]

theorem isFrame_commandFrame (b : Byte) : IsFrame (commandFrame b) := .inl ⟨b, rfl⟩

theorem isFrame_dataFrame {bs : List Byte} (h : bs.length ≤ Config.maxPayload) : IsFrame (dataFrame bs) := .inr ⟨bs, h, rfl⟩

/-- Every transaction of a REFRESH sends a frame (45_refresh R161). -/
theorem isFrame_refreshFrame (s : State) : IsFrame (refreshFrame s) := by
  unfold refreshFrame
  split
  iterate 3 exact isFrame_commandFrame _
  exact isFrame_dataFrame (by simp [pageRow, Config.width, Config.maxPayload])

/-- A glyph copied inside its page keeps the canonical form. -/
theorem wf_textStep {base : Nat} (hb : base + Config.width ≤ Config.fbBytes) (ch : Byte) {t : TextRegs}
    (room : t.cursor.toNat ≤ Config.width - Config.glyphW) {m : Memory} (hm : m.wf) : (textStep base ch t m).2.wf := by
  unfold textStep
  split
  · exact hm
  · next g hg =>
    refine Memory.wf_writeRow _ _ _ hm ?_
    rw [glyphLookup_length hg]
    simp only [Config.width, Config.glyphW] at *
    omega

/-- The character loop keeps the canonical form: it stops before a glyph would leave its page (44_text R152). -/
theorem wf_textRun {base : Nat} (hb : base + Config.width ≤ Config.fbBytes) (text : List Byte) (t : TextRegs) {m : Memory}
    (hm : m.wf) : (textRun base text t m).2.wf := by
  induction text generalizing t m with
  | nil => exact hm
  | cons ch rest ih =>
    rw [textRun_cons]
    split
    · exact hm
    · next room => exact ih _ (wf_textStep hb ch (Nat.le_of_not_gt room) hm)

/-! ## What holds inside an operation too -/

/-- The clauses of the invariant that an operation keeps all along. -/
structure Sound (s : State) : Prop where
  memory : s.fb.wf
  warn : s.initWarn = true → s.devValid = true
  framed : ∀ x ∈ s.trace, IsFrame x.bytes

namespace Sound

variable {s : State}

theorem of_inv (h : Inv s) : Sound s := { h with }

/-- The response makes the invariant whole: the block is idle, and the last response is the one just given. -/
theorem inv_respond (h : Sound s) {code : ResultCode} {info : Byte} (zero : code ≠ .busErr → info = 0) :
    Inv (respond code info s) :=
  { h with
    idle := rfl
    notBusy := rfl
    info := zero
    last := fun r hr => by simpa using hr.symm }

theorem inv_complete (h : Sound s) : Inv (complete s) := h.inv_respond fun _ => rfl

theorem inv_conclude (h : Sound s) (r : Answer) : Inv (conclude r s) := by
  cases r with
  | ok => exact h.inv_complete
  | err e => exact h.inv_respond fun notBus => absurd rfl notBus

theorem accept (h : Sound s) (hd : HeaderWord) (payload : List Byte) : Sound (accept hd payload s) := { h with }
theorem withHost (h : Sound s) (inputs : List HostInput) : Sound (withHost inputs s) := { h with }
theorem enter (h : Sound s) (q : Seq) : Sound (enter q s) := { h with }
theorem withLine (h : Sound s) (r : LineRegs) : Sound (withLine r s) := { h with }
theorem withText (h : Sound s) (t : TextRegs) : Sound (withText t s) := { h with }
theorem withScan (h : Sound s) (r : ScanRegs) : Sound (withScan r s) := { h with }
theorem withInitIdx (h : Sound s) (i : BitVec 6) : Sound (withInitIdx i s) := { h with }
theorem forgetLine (h : Sound s) : Sound (forgetLine s) := { h with }
theorem forgetText (h : Sound s) : Sound (forgetText s) := { h with }
theorem forgetScan (h : Sound s) : Sound (forgetScan s) := { h with }
theorem forgetInit (h : Sound s) : Sound (forgetInit s) := { h with }
theorem forgetFill (h : Sound s) : Sound (forgetFill s) := { h with }
theorem latchDevice (h : Sound s) (busId : Byte) (address : BitVec 7) : Sound (latchDevice busId address s) := { h with }

theorem withFb (h : Sound s) {m : Memory} (hm : m.wf) : Sound (withFb m s) := { h with memory := hm }

theorem fillBytes (h : Sound s) {base n : Nat} (hn : base + n ≤ Config.fbBytes) (v : Byte) : Sound (fillBytes base n v s) :=
  { h with memory := fillBytes_wf s base n v h.memory hn }

theorem forgetDevice (h : Sound s) : Sound (forgetDevice s) := { h with memory := forgetDevice_wf s h.memory }

theorem dropDevice (h : Sound s) : Sound (dropDevice s) := { h with warn := fun warned => absurd warned Bool.false_ne_true }

theorem withDevValid (h : Sound s) : Sound (withDevValid true s) := { h with warn := fun _ => rfl }

theorem withInitWarn (h : Sound s) (valid : s.devValid = true) (w : Bool) : Sound (withInitWarn w s) :=
  { h with warn := fun _ => valid }

/-- A transaction that sends a frame adds a frame to the trace. -/
theorem afterTransact (h : Sound s) {bytes : List Byte} (frame : IsFrame bytes) : Sound (afterTransact bytes s) where
  memory := by simpa using h.memory
  warn := by simpa using h.warn
  framed := by
    intro x hx
    simp only [record_trace, dropAnswer_trace, List.mem_append, List.mem_singleton] at hx
    obtain old | rfl := hx
    · exact h.framed x old
    · exact frame

/-! ## The operations -/

theorem initRun (h : Sound s) (valid : s.devValid = true) (bytes : List Byte) : Sound (initRun bytes s) := by
  induction bytes generalizing s with
  | nil => exact h
  | cons byte rest ih =>
    rw [initRun_cons]
    exact ih (((h.afterTransact (isFrame_commandFrame byte)).withInitWarn (by simpa using valid) _).withInitIdx _)
      (by simpa using valid)

theorem refreshRun (h : Sound s) (n : Nat) : Sound (refreshRun n s).2 := by
  induction n generalizing s with
  | zero => exact h
  | succ n ih =>
    have sent := h.afterTransact (isFrame_refreshFrame s)
    rw [refreshRun_succ]
    cases s.nextAnswer 0 with
    | err e => exact sent
    | ok => exact ih (sent.withScan _)

theorem inv_initDevice (h : Sound s) (busId : Byte) (address : BitVec 7) :
    Inv (initDevice Config.allocCanFail busId address s) := by
  have fresh : Sound (freshDevice busId address s) :=
    (((h.enter .init).dropDevice.latchDevice busId address).fillBytes (Nat.le_refl _) _).withDevValid
  rw [initDevice_eq]
  exact ((fresh.withInitIdx _).initRun rfl _).forgetInit.inv_complete

theorem inv_clearScreen (h : Sound s) (fill : Bool) : Inv (clearScreen fill s) :=
  ((h.enter .clear).fillBytes (Nat.le_refl _) _).forgetFill.inv_complete

theorem inv_setPoint (h : Sound s) (x y : Int) (on : Bool) : Inv (setPoint x y on s) := by
  obtain ⟨inside, eq⟩ | eq := setPoint_cases x y on <;> rw [eq]
  · exact ((h.enter .setPoint).withFb (wf_writePixel _ on x y h.memory inside)).inv_complete
  · exact h.inv_respond fun _ => rfl

theorem inv_drawLine (h : Sound s) (x0 y0 x1 y1 : Half) : Inv (drawLine x0 y0 x1 y1 s) := by
  rw [drawLine_eq]
  exact (((h.enter .drawLine).withFb (wf_lineRun _ _ _ h.memory)).withLine _).forgetLine.inv_complete

theorem inv_drawText (h : Sound s) (line : Nat) (text : List Byte) : Inv (drawText line text s) := by
  obtain ⟨inRange, eq⟩ | eq := drawText_cases line text <;> rw [eq]
  · have page : pageBase line + Config.width ≤ Config.fbBytes := by
      simp only [pageBase, Config.pages, Config.width, Config.fbBytes] at *
      omega
    have cleared : Sound (clearedPage line s) := (h.enter .drawText).fillBytes page _
    exact ((cleared.withFb (wf_textRun page text _ cleared.memory)).withText _).forgetText.inv_complete
  · exact h.inv_respond fun _ => rfl

theorem inv_refreshPanel (h : Sound s) : Inv (refreshPanel s) := by
  have start : Sound (refreshStart s) := (h.enter .refresh).withScan _
  rw [refreshPanel_eq]
  exact (start.refreshRun _).forgetScan.inv_conclude _

theorem inv_releaseDevice (h : Sound s) : Inv (releaseDevice s) := (h.enter .release).dropDevice.forgetDevice.inv_complete

theorem inv_writeCmd (h : Sound s) (byte : Byte) : Inv (writeCmd byte s) := by
  rw [writeCmd_eq]
  exact ((h.enter .writeCmd).afterTransact (isFrame_commandFrame byte)).inv_conclude _

theorem inv_writeData (h : Sound s) {bytes : List Byte} (fits : bytes.length ≤ Config.maxPayload) :
    Inv (writeData bytes s) := by
  rw [writeData_eq]
  exact ((h.enter .writeData).afterTransact (isFrame_dataFrame fits)).inv_conclude _

theorem inv_operation (h : Sound s) {i : Instr} (legal : i.wellFormed = true) : Inv (operation i s) := by
  cases i with
  | init busId address => exact h.inv_initDevice busId address
  | clear fill => exact h.inv_clearScreen fill
  | setPoint x y on => exact h.inv_setPoint _ _ on
  | drawLine x0 y0 x1 y1 => exact h.inv_drawLine x0 y0 x1 y1
  | drawText line text => exact h.inv_drawText _ text
  | refresh => exact h.inv_refreshPanel
  | release => exact h.inv_releaseDevice
  | writeCmd byte => exact h.inv_writeCmd byte
  | writeData bytes => exact h.inv_writeData (of_decide_eq_true legal)

/-- A well-formed operation ends in a state of the invariant. -/
theorem inv_exec (h : Sound s) {i : Instr} {t : State} (legal : i.wellFormed = true) (run : exec i s = .next t) : Inv t := by
  obtain ⟨-, rfl⟩ | rfl := exec_cases run
  · exact h.inv_operation legal
  · exact h.inv_respond fun _ => rfl

theorem inv_runPacket (h : Sound s) {hd : HeaderWord} {payload : List Byte} {t : State}
    (run : runPacket hd payload s = .next t) : Inv t := by
  have accepted := h.accept hd payload
  obtain ⟨i, decoded, eq⟩ | eq := runPacket_cases hd payload <;> rw [eq] at run
  · exact accepted.inv_exec (wellFormed_of_decode decoded) run
  · obtain rfl := Host.Outcome.next.inj run
    exact accepted.inv_respond fun _ => rfl

end Sound

/-- The block as a reset input leaves it meets the invariant. -/
theorem inv_resetBlock (s : State) : Inv (resetBlock s) where
  memory := Memory.wf_nil
  idle := rfl
  notBusy := rfl
  info := fun _ => rfl
  warn := id
  framed := fun _ hx => absurd hx List.not_mem_nil
  last := fun _ hr => absurd hr nofun

/-- Settles O46: a step stays, runs a packet or resets; the operation a packet decodes to keeps memory, warning and trace
sound, and its response gives the rest. -/
theorem stepKeepsTheInvariant : Obligations.StepKeepsTheInvariant := by
  intro s t h run
  obtain ⟨-, eq⟩ | ⟨hd, payload, rest, -, eq⟩ | ⟨rest, -, eq⟩ := step_cases s (ready_of_step_next run)
  all_goals rw [eq] at run
  · exact Host.Outcome.next.inj run ▸ h
  · exact ((Sound.of_inv h).withHost rest).inv_runPacket run
  · exact Host.Outcome.next.inj run ▸ inv_resetBlock _

end Sys2Proof.Machine
end

section
/-! Noninterference (10_state R23, R34, 70_reset_and_hazards R201): two states a host cannot tell apart stay so through every
update of the state, every operation and every step. -/

namespace Sys2Proof.Machine

open Sys2Proof.Safety

/-! ## Framebuffers that read alike -/

/-- The two memories read alike at the 2048 indices of the framebuffer. -/
def Memory.Agree (m n : Memory) : Prop := ∀ addr, addr < Config.fbBytes → n.read addr = m.read addr

namespace Memory.Agree

variable {m n : Memory}

theorem writeRow (h : Agree m n) (base : Nat) (vs : List Byte) : Agree (m.writeRow base vs) (n.writeRow base vs) := by
  intro addr inside
  rw [read_writeRow, read_writeRow, h addr inside]

theorem writePixel (h : Agree m n) (on : Bool) {x y : Int} (inside : inBounds x y = true) :
    Agree (m.writePixel on x y) (n.writePixel on x y) := by
  intro addr below
  rw [read_writePixel, read_writePixel, h addr below, h _ (pixelIndex_lt x y inside)]

theorem plot (h : Agree m n) (r : LineRegs) : Agree (plot r m) (plot r n) := by
  unfold Machine.plot
  split
  · next inside => exact h.writePixel true inside
  · exact h

theorem lineRun (h : Agree m n) (k : Nat) (r : LineRegs) : Agree (lineRun k r m).2 (lineRun k r n).2 := by
  induction k generalizing r m n with
  | zero => exact h
  | succ k ih =>
    rw [lineRun_succ, lineRun_succ]
    split
    · exact h.plot r
    · exact ih (h.plot r) r.move

theorem textStep (h : Agree m n) (base : Nat) (ch : Byte) (t : TextRegs) :
    (textStep base ch t n).1 = (textStep base ch t m).1 ∧ Agree (textStep base ch t m).2 (textStep base ch t n).2 := by
  unfold Machine.textStep
  split
  · exact ⟨rfl, h⟩
  · exact ⟨rfl, h.writeRow _ _⟩

theorem textRun (h : Agree m n) (base : Nat) (text : List Byte) (t : TextRegs) :
    Agree (textRun base text t m).2 (textRun base text t n).2 := by
  induction text generalizing t m n with
  | nil => exact h
  | cons ch rest ih =>
    obtain ⟨regs, memory⟩ := h.textStep base ch t
    rw [textRun_cons, textRun_cons, regs]
    split
    · exact h
    · exact ih memory _

theorem pageRow (h : Agree m n) {page : Nat} (hp : page < Config.pages) : pageRow page n = pageRow page m := by
  refine List.map_congr_left fun i hi => h _ ?_
  rw [List.mem_range] at hi
  simp only [pageBase, Config.pages, Config.width, Config.fbBytes] at *
  omega

end Memory.Agree

/-- A move writes `E2` before it reads it, so the framebuffer after the loop does not depend on what it held
(10_state R23, 43_line R141). -/
theorem lineRun_e2 (k : Nat) (r : LineRegs) (e : BitVec 19) (m : Memory) :
    (lineRun k { r with e2 := e } m).2 = (lineRun k r m).2 := by
  cases k with
  | zero => rfl
  | succ k =>
    simp only [lineRun_succ, apply_ite Prod.snd]
    rfl

theorem lineMemory_e2 (x0 y0 x1 y1 : Half) (e e' : BitVec 19) (m : Memory) :
    lineMemory x0 y0 x1 y1 e m = lineMemory x0 y0 x1 y1 e' m :=
  lineRun_e2 _ (LineRegs.start x0 y0 x1 y1 e') e m

/-! ## The position of a REFRESH -/

/-- How many transactions of the REFRESH come before the one `PAGE_CTR` and `PHASE` point at (45_refresh R160). -/
def ScanRegs.position (r : ScanRegs) : Nat := 4 * r.pageCtr.toNat + r.phase.toNat

theorem position_advance {r : ScanRegs} (h : r.position < refreshCount) : r.advance.position = r.position + 1 := by
  obtain ⟨page, phase⟩ := r
  have hphase := phase.isLt
  simp only [ScanRegs.position, refreshCount, Config.pages, ScanRegs.advance] at *
  split
  · next last =>
    subst last
    simp
    omega
  · next notLast =>
    have : phase.toNat ≠ 3 := fun h3 => notLast (BitVec.eq_of_toNat_eq h3)
    simp
    omega

end Sys2Proof.Machine
end

section
/-! `SameView` through each update, each operation and each step. -/

namespace Sys2Proof.Safety.SameView

open Sys2Proof.Machine

variable {s t : State}

/-! ## What `SameView` gives -/

theorem agree (h : SameView s t) (valid : s.devValid = true) : s.fb.Agree t.fb := h.memory valid

theorem nextAnswer (h : SameView s t) (k : Nat) : t.nextAnswer k = s.nextAnswer k :=
  nextAnswer_congr h.answers h.answerDraws k

theorem initWarn (h : SameView s t) : t.initWarn = s.initWarn := by
  obtain ⟨-, -, warn, -, -⟩ := status_eq_iff.1 h.status
  exact warn

theorem ready (h : SameView s t) : t.ready = s.ready := by
  obtain ⟨busy, -, -, -, -⟩ := status_eq_iff.1 h.status
  simp only [State.ready, h.seq, busy]

/-! ## Updates of what no host observes -/

theorem withLine (h : SameView s t) (q r : LineRegs) : SameView (withLine q s) (withLine r t) := { h with }
theorem withText (h : SameView s t) (q r : TextRegs) : SameView (withText q s) (withText r t) := { h with }
theorem withScan (h : SameView s t) (q r : ScanRegs) : SameView (withScan q s) (withScan r t) := { h with }
theorem withInitIdx (h : SameView s t) (i j : BitVec 6) : SameView (withInitIdx i s) (withInitIdx j t) := { h with }
theorem forgetLine (h : SameView s t) : SameView (forgetLine s) (forgetLine t) := { h with }
theorem forgetText (h : SameView s t) : SameView (forgetText s) (forgetText t) := { h with }
theorem forgetScan (h : SameView s t) : SameView (forgetScan s) (forgetScan t) := { h with }
theorem forgetInit (h : SameView s t) : SameView (forgetInit s) (forgetInit t) := { h with }
theorem forgetFill (h : SameView s t) : SameView (forgetFill s) (forgetFill t) := { h with }

/-! ## Updates of what a host observes -/

theorem withHost (h : SameView s t) (inputs : List HostInput) : SameView (withHost inputs s) (withHost inputs t) :=
  { h with host := rfl }

theorem enter (h : SameView s t) (q : Seq) : SameView (enter q s) (enter q t) := { h with seq := rfl }

theorem withFb (h : SameView s t) {m n : Memory} (hm : s.devValid = true → m.Agree n) :
    SameView (withFb m s) (withFb n t) := { h with memory := hm }

theorem fillBytes (h : SameView s t) (base n : Nat) (v : Byte) : SameView (fillBytes base n v s) (fillBytes base n v t) :=
  { h with memory := fun valid => (h.agree valid).writeRow base _ }

theorem accept (h : SameView s t) (hd : HeaderWord) (payload : List Byte) :
    SameView (accept hd payload s) (accept hd payload t) :=
  { h with
    seq := rfl
    status := by
      obtain ⟨-, other⟩ := status_eq_iff.1 h.status
      exact status_eq_iff.2 ⟨rfl, other⟩ }

theorem respond (h : SameView s t) (code : ResultCode) (info : Byte) :
    SameView (respond code info s) (respond code info t) :=
  { h with
    seq := rfl
    responses := congrArg (· ++ [responseWord code info]) h.responses
    status := status_eq_iff.2 ⟨rfl, h.devValid, h.initWarn, rfl, rfl⟩ }

theorem complete (h : SameView s t) : SameView (complete s) (complete t) := h.respond .ok 0#8

theorem conclude (h : SameView s t) (r : Answer) : SameView (conclude r s) (conclude r t) := by
  rw [conclude_eq, conclude_eq]
  exact h.respond _ _

theorem withInitWarn (h : SameView s t) (w : Bool) : SameView (withInitWarn w s) (withInitWarn w t) :=
  { h with
    status := by
      obtain ⟨busy, valid, -, result⟩ := status_eq_iff.1 h.status
      exact status_eq_iff.2 ⟨busy, valid, rfl, result⟩ }

/-- Without a Device nothing is observed of its registers and its framebuffer. -/
theorem dropDevice (h : SameView s t) : SameView (dropDevice s) (dropDevice t) :=
  { h with
    devValid := rfl
    busId := fun valid => absurd valid Bool.false_ne_true
    devAddr := fun valid => absurd valid Bool.false_ne_true
    memory := fun valid => absurd valid Bool.false_ne_true
    status := by
      obtain ⟨busy, -, -, result⟩ := status_eq_iff.1 h.status
      exact status_eq_iff.2 ⟨busy, rfl, rfl, result⟩ }

/-- The free values of a dropped Device are not observed. -/
theorem forgetDevice (h : SameView s t) (dropped : s.devValid = false) : SameView (forgetDevice s) (forgetDevice t) :=
  have unobserved {p : Prop} (valid : s.devValid = true) : p := absurd (dropped.symm.trans valid) Bool.false_ne_true
  { h with busId := unobserved, devAddr := unobserved, memory := unobserved }

/-- A new Device is the same from whatever there was before: its registers and all its framebuffer are written. -/
theorem freshDevice (h : SameView s t) (busId : Byte) (address : BitVec 7) :
    SameView (freshDevice busId address s) (freshDevice busId address t) :=
  { h.dropDevice with
    devValid := rfl
    busId := fun _ => rfl
    devAddr := fun _ => rfl
    memory := fun _ addr below => by
      have zeroed (u : State) : (Machine.freshDevice busId address u).fb.read addr = 0x00#8 := by
        rw [Machine.freshDevice, withDevValid_fb, fillBytes_read, if_pos ⟨Nat.zero_le _, by simpa using below⟩]
      rw [zeroed, zeroed]
    seq := rfl
    status := by
      obtain ⟨busy, -, -, result⟩ := status_eq_iff.1 h.status
      exact status_eq_iff.2 ⟨busy, rfl, rfl, result⟩ }

/-- The answers still to come are the same after one is used up. -/
theorem dropAnswer (h : SameView s t) : SameView (dropAnswer s) (dropAnswer t) := by
  unfold Machine.dropAnswer
  rw [h.answers]
  cases s.answers with
  | nil => exact { h with answers := rfl, answerDraws := congrArg (· + 1) h.answerDraws }
  | cons r rest => exact { h with answers := rfl }

/-- A transaction to the Device shows the same in both traces. -/
theorem afterTransact (h : SameView s t) (valid : s.devValid = true) (bytes : List Byte) :
    SameView (afterTransact bytes s) (afterTransact bytes t) := by
  have dropped := h.dropAnswer
  rw [Machine.afterTransact, Machine.afterTransact, h.busId valid, h.devAddr valid, h.nextAnswer]
  exact { dropped with trace := congrArg (· ++ [_]) dropped.trace }

/-! ## The operations -/

theorem initRun (h : SameView s t) (valid : s.devValid = true) (bytes : List Byte) :
    SameView (initRun bytes s) (initRun bytes t) := by
  induction bytes generalizing s t with
  | nil => exact h
  | cons byte rest ih =>
    rw [initRun_cons, initRun_cons, h.initWarn, h.nextAnswer]
    exact ih (((h.afterTransact valid _).withInitWarn _).withInitIdx _ _) (by simpa using valid)

theorem initDevice (h : SameView s t) (busId : Byte) (address : BitVec 7) :
    SameView (initDevice Config.allocCanFail busId address s) (initDevice Config.allocCanFail busId address t) := by
  rw [initDevice_eq, initDevice_eq]
  exact (((h.freshDevice busId address).withInitIdx _ _).initRun rfl _).forgetInit.complete

theorem clearScreen (h : SameView s t) (fill : Bool) : SameView (clearScreen fill s) (clearScreen fill t) :=
  ((h.enter .clear).fillBytes _ _ _).forgetFill.complete

theorem setPoint (h : SameView s t) (x y : Int) (on : Bool) : SameView (setPoint x y on s) (setPoint x y on t) := by
  obtain ⟨inside, eq⟩ | eq := setPoint_cases x y on <;> rw [eq, eq]
  · exact ((h.enter .setPoint).withFb fun valid => (h.agree valid).writePixel on inside).complete
  · exact h.respond _ _

theorem drawLine (h : SameView s t) (x0 y0 x1 y1 : Half) : SameView (drawLine x0 y0 x1 y1 s) (drawLine x0 y0 x1 y1 t) := by
  have memory (valid : s.devValid = true) :
      (lineMemory x0 y0 x1 y1 s.line.e2 s.fb).Agree (lineMemory x0 y0 x1 y1 t.line.e2 t.fb) := by
    rw [lineMemory_e2 x0 y0 x1 y1 t.line.e2 s.line.e2]
    exact (h.agree valid).lineRun _ _
  rw [drawLine_eq, drawLine_eq]
  exact (((h.enter .drawLine).withFb memory).withLine _ _).forgetLine.complete

theorem drawText (h : SameView s t) (line : Nat) (text : List Byte) :
    SameView (drawText line text s) (drawText line text t) := by
  obtain ⟨-, eq⟩ | eq := drawText_cases line text <;> rw [eq, eq]
  · have cleared : SameView (clearedPage line s) (clearedPage line t) := (h.enter .drawText).fillBytes _ _ _
    exact ((cleared.withFb fun valid => (cleared.agree valid).textRun _ text _).withText _ _).forgetText.complete
  · exact h.respond _ _

/-- Both states send the same frame: a page of the framebuffer reads alike, and `PAGE_CTR` is in 0..15. -/
theorem refreshFrame (h : SameView s t) (valid : s.devValid = true) (scan : t.scan = s.scan)
    (inside : s.scan.position < refreshCount) : refreshFrame t = refreshFrame s := by
  have page : s.scan.pageCtr.toNat < Config.pages := by
    simp only [ScanRegs.position, refreshCount] at inside
    omega
  simp only [Machine.refreshFrame, scan, (h.agree valid).pageRow page]

/-- The page loop, for as many transactions as are left of the 64. -/
theorem refreshRun (h : SameView s t) (valid : s.devValid = true) (scan : t.scan = s.scan) (n : Nat)
    (left : s.scan.position + n ≤ refreshCount) :
    (refreshRun n t).1 = (refreshRun n s).1 ∧ SameView (refreshRun n s).2 (refreshRun n t).2 := by
  induction n generalizing s t with
  | zero => exact ⟨rfl, h⟩
  | succ n ih =>
    have sent := h.afterTransact valid (Machine.refreshFrame s)
    rw [refreshRun_succ, refreshRun_succ, h.nextAnswer, h.refreshFrame valid scan (by omega), scan]
    cases s.nextAnswer 0 with
    | err e => exact ⟨rfl, sent⟩
    | ok =>
      refine ih (sent.withScan _ _) (by simpa using valid) rfl ?_
      rw [withScan_scan, position_advance (by omega)]
      omega

theorem refreshPanel (h : SameView s t) (valid : s.devValid = true) : SameView (refreshPanel s) (refreshPanel t) := by
  have start : SameView (refreshStart s) (refreshStart t) := (h.enter .refresh).withScan _ _
  obtain ⟨answer, view⟩ := start.refreshRun valid rfl refreshCount (Nat.le_refl _)
  rw [refreshPanel_eq, refreshPanel_eq, answer]
  exact view.forgetScan.conclude _

theorem releaseDevice (h : SameView s t) : SameView (releaseDevice s) (releaseDevice t) :=
  ((h.enter .release).dropDevice.forgetDevice rfl).complete

theorem writeCmd (h : SameView s t) (valid : s.devValid = true) (byte : Byte) :
    SameView (writeCmd byte s) (writeCmd byte t) := by
  rw [writeCmd_eq, writeCmd_eq, h.nextAnswer]
  exact ((h.enter .writeCmd).afterTransact valid _).conclude _

theorem writeData (h : SameView s t) (valid : s.devValid = true) (bytes : List Byte) :
    SameView (writeData bytes s) (writeData bytes t) := by
  rw [writeData_eq, writeData_eq, h.nextAnswer]
  exact ((h.enter .writeData).afterTransact valid _).conclude _

theorem operation (h : SameView s t) {i : Instr} (runs : i.mnemonic = "INIT" ∨ s.devValid = true) :
    SameView (operation i s) (operation i t) := by
  have valid (notInit : i.mnemonic ≠ "INIT") : s.devValid = true := runs.resolve_left notInit
  cases i with
  | init busId address => exact h.initDevice busId address
  | clear fill => exact h.clearScreen fill
  | setPoint x y on => exact h.setPoint _ _ on
  | drawLine x0 y0 x1 y1 => exact h.drawLine x0 y0 x1 y1
  | drawText line text => exact h.drawText _ text
  | refresh => exact h.refreshPanel (valid (by simp [Instr.mnemonic]))
  | release => exact h.releaseDevice
  | writeCmd byte => exact h.writeCmd (valid (by simp [Instr.mnemonic])) byte
  | writeData bytes => exact h.writeData (valid (by simp [Instr.mnemonic])) bytes

/-- Both states pass the device check or both fail it. -/
theorem exec (h : SameView s t) {i : Instr} {s' : State} (run : exec i s = .next s') :
    ∃ t', exec i t = .next t' ∧ SameView s' t' := by
  by_cases runs : i.mnemonic = "INIT" ∨ s.devValid = true
  · rw [exec_eq_operation runs] at run
    obtain rfl := Host.Outcome.next.inj run
    exact ⟨_, exec_eq_operation (h.devValid ▸ runs), h.operation runs⟩
  · rw [not_or, Bool.not_eq_true] at runs
    obtain ⟨notInit, invalid⟩ := runs
    rw [exec_eq_noDevice notInit invalid] at run
    obtain rfl := Host.Outcome.next.inj run
    exact ⟨_, exec_eq_noDevice notInit (h.devValid.trans invalid), h.respond _ _⟩

/-- Both states decode the same packet, which alone the operand registers hold once it is accepted. -/
theorem runPacket (h : SameView s t) {hd : HeaderWord} {payload : List Byte} {s' : State}
    (run : runPacket hd payload s = .next s') : ∃ t', runPacket hd payload t = .next t' ∧ SameView s' t' := by
  have accepted := h.accept hd payload
  obtain ⟨i, -, eq⟩ | eq := runPacket_cases hd payload <;> rw [eq] at run ⊢
  · exact accepted.exec run
  · obtain rfl := Host.Outcome.next.inj run
    exact ⟨_, rfl, accepted.respond _ _⟩

theorem resetBlock (h : SameView s t) : SameView (resetBlock s) (resetBlock t) where
  devValid := rfl
  busId := fun _ => rfl
  devAddr := fun _ => rfl
  memory := fun _ _ _ => rfl
  status := rfl
  seq := rfl
  trace := rfl
  responses := rfl
  host := h.host
  answers := h.answers
  answerDraws := h.answerDraws

end Sys2Proof.Safety.SameView

namespace Sys2Proof.Machine

open Sys2Proof.Safety

/-- Settles O47: both blocks take the same input of the host, and each way of serving it keeps them alike. -/
theorem unspecifiedValuesAreNeverObserved : Obligations.UnspecifiedValuesAreNeverObserved := by
  intro s t s' h run
  have readyS := ready_of_step_next run
  have readyT := h.ready.trans readyS
  obtain ⟨host, eq⟩ | ⟨hd, payload, rest, host, eq⟩ | ⟨rest, host, eq⟩ := step_cases s readyS <;> rw [eq] at run
  · obtain rfl := Host.Outcome.next.inj run
    exact ⟨t, step_of_nil readyT (h.host.trans host), h⟩
  · rw [step_of_packet readyT (h.host.trans host)]
    exact (h.withHost rest).runPacket run
  · obtain rfl := Host.Outcome.next.inj run
    exact ⟨_, step_of_reset readyT (h.host.trans host), (h.withHost rest).resetBlock⟩

end Sys2Proof.Machine
end

section
/-! The bus trace over one operation (20_memory R52, R66, R68): the five operations that only draw or drop the Device send
nothing, and every other operation adds frames to one recipient, transaction by transaction. -/

namespace Sys2Proof.Machine

open Sys2Proof.Safety

/-! ## The operations that never send -/

theorem sameBus_refl (s : State) : SameBus s s := ⟨rfl, rfl, rfl⟩

/-- The bodies of CLEAR, SET_POINT, DRAW_LINE, DRAW_TEXT and RELEASE leave the bus alone. -/
theorem operation_sameBus {i : Instr} (drawing : i.mnemonic ∈ ["CLEAR", "SET_POINT", "DRAW_LINE", "DRAW_TEXT", "RELEASE"])
    (s : State) : SameBus s (operation i s) := by
  cases i with
  | clear fill => exact sameBus_refl s
  | setPoint x y on =>
    change SameBus s (setPoint (coord x) (coord y) on s)
    obtain ⟨-, eq⟩ | eq := setPoint_cases (coord x) (coord y) on <;> rw [eq] <;> exact sameBus_refl s
  | drawLine x0 y0 x1 y1 => exact sameBus_refl s
  | drawText line text =>
    change SameBus s (drawText (unsigned line) text s)
    obtain ⟨-, eq⟩ | eq := drawText_cases (unsigned line) text <;> rw [eq] <;> exact sameBus_refl s
  | release => exact sameBus_refl s
  | _ => simp [Instr.mnemonic] at drawing

/-- Settles O40: none of the five bodies reaches the bus, nor does the answer `NO_DEVICE`. -/
theorem drawingNeverReachesTheBus : Obligations.DrawingNeverReachesTheBus := by
  intro i s t drawing run
  obtain ⟨-, rfl⟩ | rfl := exec_cases run
  · exact operation_sameBus drawing s
  · exact sameBus_refl s

/-! ## The operations that send -/

/-- The trace `later` is `earlier` and after it only frames, all of them to one bus and address. -/
def GrowsByFrames (recipient : Byte × BitVec 7) (earlier later : List Transaction) : Prop :=
  ∃ new, later = earlier ++ new ∧ ∀ x ∈ new, IsFrame x.bytes ∧ x.bus = recipient.1 ∧ x.addr = recipient.2

theorem growsByFrames_refl (recipient : Byte × BitVec 7) (trace : List Transaction) : GrowsByFrames recipient trace trace :=
  ⟨[], (List.append_nil trace).symm, fun _ hx => absurd hx List.not_mem_nil⟩

theorem GrowsByFrames.append_frame {recipient : Byte × BitVec 7} {earlier later : List Transaction}
    (h : GrowsByFrames recipient earlier later) {bytes : List Byte} (frame : IsFrame bytes) (answer : Answer) :
    GrowsByFrames recipient earlier (later ++ [⟨recipient.1, recipient.2, bytes, answer⟩]) := by
  obtain ⟨new, rfl, framed⟩ := h
  refine ⟨new ++ [⟨recipient.1, recipient.2, bytes, answer⟩], List.append_assoc .., fun x hx => ?_⟩
  obtain old | rfl := List.mem_append.1 hx |>.imp_right List.mem_singleton.1
  · exact framed x old
  · exact ⟨frame, rfl, rfl⟩

/-- What holds inside an operation that sends: the device registers name its recipient, and what it has added to the trace
`earlier` are frames to that recipient. -/
structure Sending (recipient : Byte × BitVec 7) (earlier : List Transaction) (s : State) : Prop where
  busId : s.busId = recipient.1
  devAddr : s.devAddr = recipient.2
  trace : GrowsByFrames recipient earlier s.trace

namespace Sending

variable {recipient : Byte × BitVec 7} {earlier : List Transaction} {s : State}

/-- Before its first transaction an operation has added nothing. -/
theorem start (s : State) : Sending (s.busId, s.devAddr) s.trace s := ⟨rfl, rfl, growsByFrames_refl _ _⟩

theorem afterTransact (h : Sending recipient earlier s) {bytes : List Byte} (frame : IsFrame bytes) :
    Sending recipient earlier (afterTransact bytes s) where
  busId := by simpa using h.busId
  devAddr := by simpa using h.devAddr
  trace := by
    rw [record_trace, dropAnswer_trace, h.busId, h.devAddr]
    exact h.trace.append_frame frame _

theorem initRun (h : Sending recipient earlier s) (bytes : List Byte) : Sending recipient earlier (initRun bytes s) := by
  induction bytes generalizing s with
  | nil => exact h
  | cons byte rest ih =>
    rw [initRun_cons]
    exact ih { h.afterTransact (isFrame_commandFrame byte) with }

theorem refreshRun (h : Sending recipient earlier s) (n : Nat) : Sending recipient earlier (refreshRun n s).2 := by
  induction n generalizing s with
  | zero => exact h
  | succ n ih =>
    have sent := h.afterTransact (isFrame_refreshFrame s)
    rw [refreshRun_succ]
    cases s.nextAnswer 0 with
    | err e => exact sent
    | ok => exact ih { sent with }

end Sending

/-- INIT sends to its operands, which it latches first (41_init R120). -/
theorem initDevice_growsByFrames (busId : Byte) (address : BitVec 7) (s : State) :
    GrowsByFrames (busId, address) s.trace (initDevice Config.allocCanFail busId address s).trace := by
  have sent := (Sending.start (withInitIdx 0#6 (freshDevice busId address s))).initRun initBytes
  rw [initDevice_eq]
  exact sent.trace

theorem refreshPanel_growsByFrames (s : State) :
    GrowsByFrames (s.busId, s.devAddr) s.trace (refreshPanel s).trace := by
  have sent := (Sending.start (refreshStart s)).refreshRun refreshCount
  rw [refreshPanel_eq, conclude_eq]
  exact sent.trace

theorem writeCmd_growsByFrames (byte : Byte) (s : State) :
    GrowsByFrames (s.busId, s.devAddr) s.trace (writeCmd byte s).trace := by
  have sent := (Sending.start (enter .writeCmd s)).afterTransact (isFrame_commandFrame byte)
  rw [writeCmd_eq, conclude_eq]
  exact sent.trace

theorem writeData_growsByFrames {bytes : List Byte} (fits : bytes.length ≤ Config.maxPayload) (s : State) :
    GrowsByFrames (s.busId, s.devAddr) s.trace (writeData bytes s).trace := by
  have sent := (Sending.start (enter .writeData s)).afterTransact (isFrame_dataFrame fits)
  rw [writeData_eq, conclude_eq]
  exact sent.trace

/-- The bus and the address an operation sends to: INIT its operands, every other operation the device registers. -/
def recipientOf (i : Instr) (s : State) : Byte × BitVec 7 :=
  match i with
  | .init busId address => (busId, address)
  | _ => (s.busId, s.devAddr)

theorem recipientOf_of_ne_init {i : Instr} (notInit : i.mnemonic ≠ "INIT") (s : State) :
    recipientOf i s = (s.busId, s.devAddr) := by
  cases i with
  | init => exact absurd rfl notInit
  | _ => rfl

/-- The body of a well-formed operation adds only frames to its recipient. -/
theorem operation_growsByFrames {i : Instr} (legal : i.wellFormed = true) (s : State) :
    GrowsByFrames (recipientOf i s) s.trace (operation i s).trace := by
  by_cases drawing : i.mnemonic ∈ ["CLEAR", "SET_POINT", "DRAW_LINE", "DRAW_TEXT", "RELEASE"]
  · obtain ⟨trace, -, -⟩ := operation_sameBus drawing s
    rw [trace]
    exact growsByFrames_refl _ _
  · cases i with
    | init busId address => exact initDevice_growsByFrames busId address s
    | refresh => exact refreshPanel_growsByFrames s
    | writeCmd byte => exact writeCmd_growsByFrames byte s
    | writeData bytes => exact writeData_growsByFrames (of_decide_eq_true legal) s
    | _ => simp [Instr.mnemonic] at drawing

/-- Settles O42: the body adds only frames to the operation's recipient, and the answer `NO_DEVICE` adds nothing. -/
theorem traceGrowsByFrames : Obligations.TraceGrowsByFrames := by
  intro i s t legal run
  have grows : GrowsByFrames (recipientOf i s) s.trace t.trace := by
    obtain ⟨-, rfl⟩ | rfl := exec_cases run
    · exact operation_growsByFrames legal s
    · exact growsByFrames_refl _ _
  obtain ⟨new, trace, sent⟩ := grows
  refine ⟨new, trace, fun x hx => (sent x hx).1, fun notInit x hx => ?device, ?init⟩
  case device =>
    rw [recipientOf_of_ne_init notInit] at sent
    exact (sent x hx).2
  case init =>
    rintro busId address rfl x hx
    exact (sent x hx).2

end Sys2Proof.Machine
end

section
/-! The fields of a packet, the encoder against the decoder, and the opcode table (30_encoding R83, R84, R86, R87, R93). A
field's zero bits are said in three ways: by the decoder's test, by the operand the field is the widening of (the
encoder's form), and by the row's mask. -/

namespace Sys2Proof

/-! ## The zero bits of a word -/

section HighBits

variable {n k : Nat} (v : BitVec (n + k))

theorem extractLsb'_append_setWidth : v.extractLsb' k n ++ v.setWidth k = v := by
  rw [BitVec.setWidth_eq_extractLsb' (Nat.le_add_left k n), BitVec.extractLsb'_append_extractLsb']

/-- The upper bits are zero exactly where the word is its lower bits, widened again. -/
theorem extractLsb'_eq_zero_iff_setWidth : v.extractLsb' k n = 0#n ↔ (v.setWidth k).setWidth (n + k) = v := by
  have widened : (v.setWidth k).setWidth (n + k) = 0#n ++ v.setWidth k := by
    rw [BitVec.setWidth_eq_append (Nat.le_add_left k n)]
    simp
  constructor
  · intro zero
    rw [widened, ← zero, extractLsb'_append_setWidth]
  · intro eq
    rw [← eq, widened, BitVec.extractLsb'_append_eq_left]

/-- A mask of the upper bits tests those bits. -/
theorem and_highMask_eq_zero_iff : v &&& (BitVec.allOnes n ++ 0#k) = 0#(n + k) ↔ v.extractLsb' k n = 0#n := by
  have masked : v &&& (BitVec.allOnes n ++ 0#k) = v.extractLsb' k n ++ 0#k := by
    conv_lhs => rw [← extractLsb'_append_setWidth v, BitVec.and_append, BitVec.and_allOnes, BitVec.and_zero]
  rw [masked, ← BitVec.zero_append_zero, BitVec.append_left_inj]

end HighBits

/-! ## The decoder's tests of a field -/

theorem highByteZero_iff (v : Half) : highByteZero v = true ↔ (v.setWidth 8).setWidth 16 = v := by
  rw [highByteZero, beq_iff_eq]
  exact extractLsb'_eq_zero_iff_setWidth (n := 8) (k := 8) v

theorem high9Zero_iff (v : Half) : high9Zero v = true ↔ (v.setWidth 7).setWidth 16 = v := by
  rw [high9Zero, beq_iff_eq]
  exact extractLsb'_eq_zero_iff_setWidth (n := 9) (k := 7) v

theorem high15Zero_iff (v : Half) : high15Zero v = true ↔ boolField (v.getLsbD 0) = v := by
  rw [high15Zero, beq_iff_eq, boolField, ← BitVec.setWidth_one]
  exact extractLsb'_eq_zero_iff_setWidth (n := 15) (k := 1) v

theorem fieldZero_iff (v : Half) : fieldZero v = true ↔ v = 0#16 := beq_iff_eq

/-! ## The masks of a field -/

@[simp] theorem and_0xFF (v : Byte) : v &&& 0xFF#8 = v := BitVec.and_allOnes

@[simp] theorem and_0xFF00_eq_zero_iff (v : Half) : v &&& 0xFF00#16 = 0#16 ↔ highByteZero v = true := by
  rw [highByteZero, beq_iff_eq]
  exact and_highMask_eq_zero_iff (n := 8) (k := 8) v

@[simp] theorem and_0xFF80_eq_zero_iff (v : Half) : v &&& 0xFF80#16 = 0#16 ↔ high9Zero v = true := by
  rw [high9Zero, beq_iff_eq]
  exact and_highMask_eq_zero_iff (n := 9) (k := 7) v

@[simp] theorem and_0xFFFE_eq_zero_iff (v : Half) : v &&& 0xFFFE#16 = 0#16 ↔ high15Zero v = true := by
  rw [high15Zero, beq_iff_eq]
  exact and_highMask_eq_zero_iff (n := 15) (k := 1) v

@[simp] theorem and_0xFFFF_eq_zero_iff (v : Half) : v &&& 0xFFFF#16 = 0#16 ↔ fieldZero v = true := by
  rw [fieldZero_iff, show 0xFFFF#16 = BitVec.allOnes 16 from rfl, BitVec.and_allOnes]

/-! ## The fields the encoder writes -/

@[simp] theorem setWidth_setWidth_byte (v : Byte) : (v.setWidth 16).setWidth 8 = v := by
  rw [BitVec.setWidth_setWidth (by decide), BitVec.setWidth_eq]

@[simp] theorem setWidth_setWidth_address (v : BitVec 7) : (v.setWidth 16).setWidth 7 = v := by
  rw [BitVec.setWidth_setWidth (by decide), BitVec.setWidth_eq]

@[simp] theorem boolField_getLsbD (b : Bool) : (boolField b).getLsbD 0 = b := by cases b <;> rfl

@[simp] theorem highByteZero_setWidth (v : Byte) : highByteZero (v.setWidth 16) = true := by
  rw [highByteZero_iff, setWidth_setWidth_byte]

@[simp] theorem high9Zero_setWidth (v : BitVec 7) : high9Zero (v.setWidth 16) = true := by
  rw [high9Zero_iff, setWidth_setWidth_address]

@[simp] theorem high15Zero_boolField (b : Bool) : high15Zero (boolField b) = true := by
  rw [high15Zero_iff, boolField_getLsbD]

@[simp] theorem fieldZero_zero : fieldZero 0#16 = true := rfl

/-- The payload of a well-formed operation is no longer than its length operand can say (30_encoding R86). -/
theorem lengthField_payload_encode {i : Instr} (h : i.wellFormed = true) :
    (lengthField (encode i).payload).toNat = (encode i).payload.length := by
  have fits {bs : List Byte} (short : decide (bs.length ≤ Config.maxPayload) = true) :
      (lengthField bs).toNat = bs.length := by
    rw [decide_eq_true_eq, Config.maxPayload] at short
    rw [lengthField, BitVec.toNat_ofNat]
    omega
  cases i with
  | drawText line text => exact fits h
  | writeData bytes => exact fits h
  | _ => rfl

/-! ## Decoding an encoding -/

/-- Decoding the packet of a well-formed operation gives it back. -/
theorem decode_encode {i : Instr} (h : i.wellFormed = true) : decode (encode i) = .ok i := by
  cases i with
  | init busId address => exact legalIf_eq_ok.2 ⟨by simp [encode], rfl, by simp [encode]⟩
  | clear fill => exact legalIf_eq_ok.2 ⟨by simp [encode], rfl, congrArg Instr.clear (boolField_getLsbD fill)⟩
  | setPoint x y on =>
    exact legalIf_eq_ok.2 ⟨by simp [encode], rfl, congrArg (Instr.setPoint x y) (boolField_getLsbD on)⟩
  | drawText line text => exact legalIf_eq_ok.2 ⟨rfl, beq_iff_eq.2 (lengthField_payload_encode h).symm, rfl⟩
  | writeCmd byte => exact legalIf_eq_ok.2 ⟨by simp [encode], rfl, by simp [encode]⟩
  | writeData bytes => exact legalIf_eq_ok.2 ⟨rfl, beq_iff_eq.2 (lengthField_payload_encode h).symm, rfl⟩
  | _ => rfl

/-- Two neighbouring bytes of a header are a 16-bit field of it. -/
theorem HeaderWord.byte_append_byte (h : HeaderWord) {k : Nat} (hk : k + 1 ≤ 8) :
    HeaderWord.byte h k ++ HeaderWord.byte h (k + 1) = h.extractLsb' (8 * (8 - (k + 1))) 16 :=
  BitVec.extractLsb'_append_extractLsb'_eq_extractLsb' (by omega)

/-- The bytes of a packet are that packet. -/
theorem packetOfBytes_toBytes (p : Packet) : packetOfBytes p.toBytes = .ok p := by
  have fields : packetOfBytes p.toBytes = .ok ⟨Header.ofWord p.header.toWord, p.payload⟩ := by
    rw [Header.ofWord, ← HeaderWord.byte_append_byte (k := 1) _ (by decide),
      ← HeaderWord.byte_append_byte (k := 3) _ (by decide), ← HeaderWord.byte_append_byte (k := 5) _ (by decide),
      ← HeaderWord.byte_append_byte (k := 7) _ (by decide)]
    rfl
  rw [fields, Header.ofWord_toWord]

/-- Settles O11: the packet's fields decode to the operation, and its number and its bytes are those fields. -/
theorem decodeEncodeRoundTrip : Obligations.DecodeEncodeRoundTrip := by
  intro i legal
  have fields := decode_encode legal
  refine ⟨fields, ?number, ?bytes⟩
  case number => rwa [Header.ofWord_toWord]
  case bytes => rwa [decodeBytes, packetOfBytes_toBytes]

/-! ## Encoding what was decoded -/

/-- Every zero-bit test the decoder makes says that the field is the one the encoder writes, and so does its length test. -/
theorem encode_of_decode {p : Packet} {i : Instr} (h : decode p = .ok i) : encode i = p := by
  obtain ⟨⟨opc, a, b, c, d⟩, payload⟩ := p
  unfold decode at h
  split at h
  case h_10 => cases h
  all_goals
    next opcode =>
    obtain ⟨zeros, length, rfl⟩ := legalIf_eq_ok.1 h
    obtain ⟨-, rfl⟩ := BitVec.toNat_eq_nat.1 opcode
    simp only [Bool.and_eq_true, highByteZero_iff, high9Zero_iff, high15Zero_iff, fieldZero_iff] at zeros
    simp only [List.isEmpty_iff, beq_iff_eq] at length
    simp only [encode, zeros, length, lengthField, BitVec.ofNat_toNat, BitVec.setWidth_eq, BitVec.ofNat_eq_ofNat]

/-- Settles O12: the decoder's tests leave no freedom in the packet, and its length test bounds the payload. -/
theorem everyLegalPacketIsAnEncoding : Obligations.EveryLegalPacketIsAnEncoding :=
  fun _ _ decoded => ⟨encode_of_decode decoded, Machine.wellFormed_of_decode decoded⟩

/-- Settles O10: the nine headers are literals, and the decoder is evaluated on each. -/
theorem sampleHeadersDecode : Obligations.SampleHeadersDecode := by
  refine ⟨?_, ?_, ?_, ?_, ?_, ?_, ?_, ?_, ?_⟩ <;> decide

/-! ## The rows of the opcode table -/

/-- The five fields of a number, side by side again, are the number. -/
@[simp] theorem Header.toWord_ofWord (w : HeaderWord) : (Header.ofWord w).toWord = w := by
  have join {low high n m : Nat} (next : high = low + n) :
      w.extractLsb' high m ++ w.extractLsb' low n = w.extractLsb' low (m + n) :=
    BitVec.extractLsb'_append_extractLsb'_eq_extractLsb' next
  simp only [Header.toWord, Header.ofWord]
  rw [join (by decide), join (by decide), join (by decide), join (by decide), BitVec.extractLsb'_eq_self]

theorem Header.ofWord_injective : Function.Injective Header.ofWord := Function.LeftInverse.injective Header.toWord_ofWord

/-- A header under a mask, field by field. -/
def Header.and (h m : Header) : Header := ⟨h.opc &&& m.opc, h.a &&& m.a, h.b &&& m.b, h.c &&& m.c, h.d &&& m.d⟩

theorem Header.ofWord_and (v w : HeaderWord) : ofWord (v &&& w) = (ofWord v).and (ofWord w) := by
  simp only [ofWord, Header.and, BitVec.extractLsb'_and]

/-- A row's test of a packet, field by field (30_encoding R93). -/
theorem OpRow.accepts_iff {r : OpRow} {p : Packet} : r.accepts p = true ↔
    p.header.and (Header.ofWord r.mask) = Header.ofWord r.pattern ∧ p.payload.length = r.payload.length p.header := by
  rw [OpRow.accepts, Bool.and_eq_true, beq_iff_eq, beq_iff_eq, ← Header.ofWord_injective.eq_iff, Header.ofWord_and,
    Header.ofWord_toWord]

/-- The row of an operation's mnemonic accepts the operation's packet: no mask reaches the bits of an operand. -/
theorem exists_row_accepts_encode {i : Instr} (h : i.wellFormed = true) :
    ∃ r ∈ opcodeTable, r.mnemonic = i.mnemonic ∧ r.accepts (encode i) = true := by
  have fits := lengthField_payload_encode h
  simp only [OpRow.accepts_iff]
  cases i
  all_goals
    simp only [encode] at fits
    simp [opcodeTable, Instr.mnemonic, encode, Header.and, Header.ofWord, LengthFrom.length, fits]

/-- What a row accepts passes the decoder's tests for the row's opcode: its masks are those tests. -/
theorem decode_of_accepts {r : OpRow} (hr : r ∈ opcodeTable) {p : Packet} (h : r.accepts p = true) :
    ∃ i, decode p = .ok i ∧ i.mnemonic = r.mnemonic := by
  obtain ⟨fields, length⟩ := OpRow.accepts_iff.1 h
  simp only [opcodeTable, List.mem_cons, List.not_mem_nil, or_false] at hr
  rcases hr with rfl | rfl | rfl | rfl | rfl | rfl | rfl | rfl | rfl
  all_goals
    simp only [Header.and, Header.ofWord, BitVec.ofNat_eq_ofNat, BitVec.reduceExtractLsb', Header.mk.injEq, and_0xFF,
      and_0xFF00_eq_zero_iff, and_0xFF80_eq_zero_iff, and_0xFFFE_eq_zero_iff, and_0xFFFF_eq_zero_iff, BitVec.and_zero] at fields
    simp only [LengthFrom.length, List.length_eq_zero_iff] at length
    simp [decode, fields, length, legalIf_eq_ok, Instr.mnemonic]

/-- Settles O13: a packet that decodes is its operation's encoding, which the operation's row accepts; what a row accepts
passes the decoder's tests. -/
theorem decoderFollowsTheOpcodeTable : Obligations.DecoderFollowsTheOpcodeTable := by
  refine fun p => ⟨fun i decoded => ?accepted, fun r hr => decode_of_accepts hr⟩
  obtain ⟨rfl, legal⟩ := everyLegalPacketIsAnEncoding p i decoded
  exact exists_row_accepts_encode legal

end Sys2Proof
end

section
/-! The two ends of an operation: the packet accepted at the command port, and the one response (30_encoding R81, R85,
R87, 60_exceptions R176). -/

namespace Sys2Proof.Machine

open Sys2Proof.Safety

/-! ## The response word -/

/-- Settles O3: the word is three fields side by side, read back one by one. -/
theorem responseWordLayout : Obligations.ResponseWordLayout := by
  refine ⟨fun code info => ⟨?number, ?zeros, ?info, ?bound⟩, rfl, rfl, rfl, rfl, rfl, rfl⟩
  case number => exact BitVec.extractLsb'_append_eq_right
  case zeros =>
    rw [responseWord, BitVec.extractLsb'_append_eq_of_le (by decide)]
    exact BitVec.extractLsb'_append_eq_right
  case info =>
    rw [responseWord, BitVec.extractLsb'_append_eq_of_le (by decide)]
    exact BitVec.extractLsb'_append_eq_left
  case bound => cases code <;> decide

/-! ## Acceptance -/

/-- `STATUS` without `BUSY`. -/
theorem status_extractLsb'_one (s : State) : s.status.extractLsb' 1 15 =
    s.lastInfo ++ s.lastResult.number ++ 0#1 ++ BitVec.ofBool s.initWarn ++ BitVec.ofBool s.devValid :=
  BitVec.extractLsb'_append_eq_left

/-- Settles O4: acceptance writes the operand registers, `BUSY` and `SEQ`, and `BUSY` is bit 0 of `STATUS`. -/
theorem acceptanceLatchesThePacket : Obligations.AcceptanceLatchesThePacket := by
  intro h payload s
  refine ⟨rfl, rfl, rfl, rfl, rfl, rfl, status_getLsbD _ 0, ?upper, rfl, ⟨rfl, rfl, rfl, rfl⟩, fun _ => rfl, ⟨rfl, rfl, rfl⟩,
    ⟨rfl, rfl, rfl, rfl, rfl⟩, rfl, rfl⟩
  case upper => rw [status_extractLsb'_one, status_extractLsb'_one]; rfl

theorem ready_of_idle {s : State} (idle : s.seq = .idle) (notBusy : s.busy = false) : s.ready = true := by
  simp [State.ready, idle, notBusy]

/-- Settles O5: a ready block takes the packet and decodes what acceptance latched. -/
theorem stepRunsTheDecodedPacket : Obligations.StepRunsTheDecodedPacket := by
  intro s h payload rest i idle notBusy host decoded
  rw [step_of_packet (ready_of_idle idle notBusy) host]
  simp only [runPacket, latched_accept, decoded]

/-! ## The response -/

/-- An operation that has issued no response yet ends with its first. -/
theorem answered_respond {s u : State} {code : ResultCode} {info : Byte} (kept : u.responses = s.responses) :
    Answered code info s (respond code info u) :=
  ⟨rfl, rfl, congrArg (· ++ [responseWord code info]) kept, rfl, rfl⟩

/-- From `s` to `t` one operation has ended, with some result. -/
def AnsweredOnce (s t : State) : Prop := ∃ code info, Answered code info s t

theorem answeredOnce_respond {s u : State} {code : ResultCode} {info : Byte} (kept : u.responses = s.responses) :
    AnsweredOnce s (respond code info u) := ⟨code, info, answered_respond kept⟩

theorem answeredOnce_conclude {s u : State} {r : Answer} (kept : u.responses = s.responses) :
    AnsweredOnce s (conclude r u) := by
  rw [conclude_eq]
  exact answeredOnce_respond kept

/-- Every body issues one response, at its end: the two loops that send issue none. -/
theorem operation_answeredOnce (i : Instr) (s : State) : AnsweredOnce s (operation i s) := by
  cases i with
  | init busId address =>
    change AnsweredOnce s (initDevice Config.allocCanFail busId address s)
    obtain ⟨_, _, _, _, _, run⟩ := initRun_frame initBytes (withInitIdx 0#6 (freshDevice busId address s))
    rw [initDevice_eq, run]
    exact answeredOnce_respond rfl
  | clear fill => exact answeredOnce_respond rfl
  | setPoint x y on =>
    change AnsweredOnce s (setPoint (coord x) (coord y) on s)
    obtain ⟨-, eq⟩ | eq := setPoint_cases (coord x) (coord y) on <;> rw [eq] <;> exact answeredOnce_respond rfl
  | drawLine x0 y0 x1 y1 => exact answeredOnce_respond rfl
  | drawText line text =>
    change AnsweredOnce s (drawText (unsigned line) text s)
    obtain ⟨-, eq⟩ | eq := drawText_cases (unsigned line) text <;> rw [eq] <;> exact answeredOnce_respond rfl
  | refresh =>
    change AnsweredOnce s (refreshPanel s)
    obtain ⟨_, _, _, _, run⟩ := refreshRun_frame refreshCount (refreshStart s)
    rw [refreshPanel_eq, run]
    exact answeredOnce_conclude rfl
  | release => exact answeredOnce_respond rfl
  | writeCmd byte => exact answeredOnce_conclude (by simp)
  | writeData bytes => exact answeredOnce_conclude (by simp)

theorem exec_answeredOnce {i : Instr} {s t : State} (run : exec i s = .next t) : AnsweredOnce s t := by
  obtain ⟨-, rfl⟩ | rfl := exec_cases run
  · exact operation_answeredOnce i s
  · exact answeredOnce_respond rfl

theorem exec_latched {i : Instr} {s t : State} (run : exec i s = .next t) : t.latched = s.latched := by
  obtain ⟨⟨opc, a, b, c, d, pay⟩, -⟩ := operationsKeepTheOperandRegisters i s t run
  simp only [State.latched, opc, a, b, c, d, pay]

/-- An accepted packet, legal or not, is answered once and stays in the operand registers (30_encoding R81, R87). -/
theorem runPacket_answeredOnce (h : HeaderWord) (payload : List Byte) (s : State) :
    ∃ t, runPacket h payload s = .next t ∧ AnsweredOnce s t ∧ t.host = s.host ∧ t.latched = ⟨Header.ofWord h, payload⟩ := by
  obtain ⟨i, -, eq⟩ | eq := runPacket_cases h payload <;> rw [eq]
  · obtain ⟨t, run⟩ := exec_next i (accept h payload s)
    obtain ⟨-, host, -⟩ := operationsKeepTheOperandRegisters i _ t run
    obtain ⟨code, info, answered⟩ := exec_answeredOnce run
    exact ⟨t, run, ⟨code, info, { answered with }⟩, host, exec_latched run⟩
  · exact ⟨_, rfl, answeredOnce_respond rfl, rfl, rfl⟩

/-- Settles O9: a block of the invariant is ready, so it stays, resets or runs its packet, and a packet is answered once. -/
theorem everyPacketGetsOneResponse : Obligations.EveryPacketGetsOneResponse := by
  intro s inv
  have ready := ready_of_idle inv.idle inv.notBusy
  refine ⟨?next, fun h payload rest host => ?packet⟩
  case next =>
    obtain ⟨-, eq⟩ | ⟨h, payload, rest, -, eq⟩ | ⟨rest, -, eq⟩ := step_cases s ready <;> rw [eq]
    · exact ⟨s, rfl⟩
    · obtain ⟨t, run, -⟩ := runPacket_answeredOnce h payload (withHost rest s)
      exact ⟨t, run⟩
    · exact ⟨_, rfl⟩
  case packet =>
    rw [step_of_packet ready host]
    obtain ⟨t, run, ⟨code, info, answered⟩, waiting, latched⟩ := runPacket_answeredOnce h payload (withHost rest s)
    refine ⟨t, run, ?_, waiting, answered.busy, answered.seq, latched⟩
    rw [answered.result, answered.information]
    exact answered.responses

/-- Settles O6: a packet that decoded would be accepted by its operation's row, so the answer is `ILLEGAL_OP`, given before
any operation. -/
theorem illegalPacketChangesNothing : Obligations.IllegalPacketChangesNothing := by
  intro s h payload rest idle notBusy host rejected
  rw [step_of_packet (ready_of_idle idle notBusy) host]
  obtain ⟨i, decoded, -⟩ | eq := runPacket_cases h payload
  · obtain ⟨legal, -⟩ := decoderFollowsTheOpcodeTable ⟨Header.ofWord h, payload⟩
    obtain ⟨r, row, -, accepted⟩ := legal i decoded
    exact absurd accepted (by simp [rejected r row])
  · exact ⟨_, eq _, answered_respond rfl, ⟨rfl, rfl, rfl, rfl⟩, fun _ => rfl, ⟨rfl, rfl, rfl⟩, ⟨rfl, rfl, rfl, rfl, rfl⟩,
      rfl, rfl, rfl⟩

end Sys2Proof.Machine
end

section
/-! WRITE_CMD and WRITE_DATA as a whole (40_bus_protocol R112, R113): each enters its operation, sends one frame and ends
with the answer to it, so what one such send does is said once, for every frame. -/

namespace Sys2Proof.Machine

open Sys2Proof.Safety

/-- From `s` to `t` one frame was sent to the Device, its answer is the result of the operation, and all the rest is kept. -/
def SentOneFrame (frame : List Byte) (s t : State) : Prop :=
  t.trace = s.trace ++ [⟨s.busId, s.devAddr, frame, s.nextAnswer 0⟩] ∧
  (s.nextAnswer 0 = .ok → Answered .ok 0 s t) ∧ (∀ e, s.nextAnswer 0 = .err e → Answered .busErr e s t) ∧
  (∀ k, t.nextAnswer k = s.nextAnswer (k + 1)) ∧
  SameMemory s t ∧ SameDevice s t ∧ SameOperands s t ∧ SameWork s t ∧ SameHost s t

/-- A transaction adds its frame to the trace and uses up one answer, and `conclude` turns that answer into the result. -/
theorem sentOneFrame_conclude (q : Seq) (frame : List Byte) (s : State) :
    SentOneFrame frame s (conclude (s.nextAnswer 0) (afterTransact frame (enter q s))) := by
  have kept : (afterTransact frame (enter q s)).responses = s.responses := by simp
  refine ⟨?trace, fun ok => ?ok, fun e err => ?err, fun k => ?answers, fun addr => ?memory, ?device, ?operands, ?work, ?host⟩
  case ok => rw [ok]; exact answered_respond kept
  case err => rw [err]; exact answered_respond kept
  all_goals simp [conclude_eq, SameDevice, SameOperands, SameWork, SameHost]

/-- Settles O38: with a Device the body runs, and it is one send of a command frame. -/
theorem writeCmdSendsOneFrame : Obligations.WriteCmdSendsOneFrame := fun byte s valid =>
  ⟨writeCmd byte s, exec_eq_operation (.inr valid), sentOneFrame_conclude .writeCmd (commandFrame byte) s⟩

/-- Settles O39: with a Device the body runs, and it is one send of a data frame, whatever the payload's length. -/
theorem writeDataSendsOneFrame : Obligations.WriteDataSendsOneFrame := fun bytes s valid =>
  ⟨writeData bytes s, exec_eq_operation (.inr valid), sentOneFrame_conclude .writeData (dataFrame bytes) s⟩

end Sys2Proof.Machine
end

section
/-! INIT and RELEASE as a whole (41_init R120 to R127): the shape of the power-up sequence, what sending it does to the
trace, the coming answers and `INIT_WARN`, and from that the new Device. -/

namespace Sys2Proof.Machine

open Sys2Proof.Safety

/-! ## The shape of the power-up sequence -/

theorem length_initStep_eq_one_or_two (i : Fin 14) : (initStep i).length = 1 ∨ (initStep i).length = 2 := by
  unfold initStep
  split
  · exact .inr rfl
  · exact .inl rfl

/-- The steps of which the spec says two bytes, counted from 0 (41_init R121). -/
theorem length_initStep_eq_two {i : Fin 14} (h : i = 3 ∨ i = 5 ∨ i = 12) : (initStep i).length = 2 := by
  rw [initStep, if_pos (by tauto)]
  rfl

theorem getElem?_initSteps (i : Fin 14) : initSteps[i.val]? = some (initStep i) := by
  simp [initSteps]

theorem length_initBytes : initBytes.length = ((List.finRange 14).map fun i => (initStep i).length).sum := by
  rw [initBytes, List.length_flatten, initSteps, List.map_map]
  rfl

/-- The least length of a step. -/
def minStepLength (i : Fin 14) : Nat := if i = 3 ∨ i = 5 ∨ i = 12 then 2 else 1

theorem minStepLength_le (i : Fin 14) : minStepLength i ≤ (initStep i).length := by
  unfold minStepLength
  split
  · next two => exact (length_initStep_eq_two two).ge
  · have := length_initStep_eq_one_or_two i
    omega

/-- Fourteen steps of at least one byte, three of them of two. -/
theorem le_length_initBytes : 17 ≤ initBytes.length := by
  rw [length_initBytes]
  calc 17 = ((List.finRange 14).map minStepLength).sum := by decide
    _ ≤ _ := List.sum_le_sum fun i _ => minStepLength_le i

/-- Fourteen steps of at most two bytes. -/
theorem length_initBytes_le : initBytes.length ≤ 28 := by
  rw [length_initBytes]
  calc _ ≤ ((List.finRange 14).map fun _ => 2).sum := List.sum_le_sum fun i _ => by
        have := length_initStep_eq_one_or_two i
        omega
    _ = 28 := by decide

/-- Settles O15: each step has one byte or two, three of them two, and the total is bounded step by step. -/
theorem powerUpStepsShape : Obligations.PowerUpStepsShape := by
  refine ⟨by simp [initSteps], fun st mem => ?each, fun k st two found => ?two, rfl, le_length_initBytes,
    length_initBytes_le⟩
  case each =>
    obtain ⟨i, -, rfl⟩ := List.mem_map.1 mem
    exact length_initStep_eq_one_or_two i
  case two =>
    obtain ⟨i, pos, step⟩ : ∃ i : Fin 14, i.val = k - 1 ∧ (i = 3 ∨ i = 5 ∨ i = 12) := by
      rcases two with rfl | rfl | rfl
      · exact ⟨3, rfl, by simp⟩
      · exact ⟨5, rfl, by simp⟩
      · exact ⟨12, rfl, by simp⟩
    rw [← pos, getElem?_initSteps] at found
    exact Option.some.inj found ▸ length_initStep_eq_two step

/-! ## Sending the power-up sequence -/

/-- Counting the answers from one place later. -/
theorem issued_shift (bus : Byte) (addr : BitVec 7) (answer : Nat → Answer) (k : Nat) (frames : List (List Byte)) :
    issued bus addr (fun j => answer (j + 1)) k frames = issued bus addr answer (k + 1) frames := by
  induction frames generalizing k with
  | nil => rfl
  | cons f fs ih => rw [issued, issued, ih]

theorem isErr_iff (r : Answer) : isErr r = true ↔ ∃ e, r = .err e := by
  cases r <;> simp [isErr]

/-- The state inside the sequence, once a byte of it is sent (41_init R120). -/
def afterCommand (byte : Byte) (s : State) : State :=
  withInitIdx (s.initIdx + 1#6) (withInitWarn (s.initWarn || isErr (s.nextAnswer 0)) (afterTransact (commandFrame byte) s))

theorem initRun_cons_afterCommand (byte : Byte) (rest : List Byte) (s : State) :
    initRun (byte :: rest) s = initRun rest (afterCommand byte s) := initRun_cons byte rest s

@[simp] theorem afterCommand_busId (byte : Byte) (s : State) : (afterCommand byte s).busId = s.busId := by
  simp [afterCommand]

@[simp] theorem afterCommand_devAddr (byte : Byte) (s : State) : (afterCommand byte s).devAddr = s.devAddr := by
  simp [afterCommand]

@[simp] theorem afterCommand_trace (byte : Byte) (s : State) : (afterCommand byte s).trace =
    s.trace ++ [⟨s.busId, s.devAddr, commandFrame byte, s.nextAnswer 0⟩] := by
  simp [afterCommand]

@[simp] theorem afterCommand_nextAnswer (byte : Byte) (s : State) :
    (afterCommand byte s).nextAnswer = fun k => s.nextAnswer (k + 1) := by
  funext k
  simp [afterCommand]

@[simp] theorem afterCommand_initWarn (byte : Byte) (s : State) :
    (afterCommand byte s).initWarn = (s.initWarn || isErr (s.nextAnswer 0)) := rfl

/-- The sequence is sent byte by byte, whatever the answers (41_init R120, R121). -/
theorem initRun_trace (bytes : List Byte) (s : State) :
    (initRun bytes s).trace = s.trace ++ issued s.busId s.devAddr s.nextAnswer 0 (bytes.map commandFrame) := by
  induction bytes generalizing s with
  | nil => exact (List.append_nil _).symm
  | cons byte rest ih =>
    rw [initRun_cons_afterCommand, ih, List.map_cons, issued, ← issued_shift]
    simp

/-- Every byte sent uses up one answer. -/
theorem initRun_nextAnswer (bytes : List Byte) (s : State) (k : Nat) :
    (initRun bytes s).nextAnswer k = s.nextAnswer (bytes.length + k) := by
  induction bytes generalizing s with
  | nil => rw [initRun_nil, List.length_nil, Nat.zero_add]
  | cons byte rest ih =>
    rw [initRun_cons_afterCommand, ih, afterCommand_nextAnswer, List.length_cons, Nat.add_right_comm]

/-- `INIT_WARN` collects the `Err` among the answers (41_init R120). -/
theorem initRun_initWarn (bytes : List Byte) (s : State) :
    (initRun bytes s).initWarn = true ↔
      s.initWarn = true ∨ ∃ k, k < bytes.length ∧ isErr (s.nextAnswer k) = true := by
  induction bytes generalizing s with
  | nil => simp [initRun_nil]
  | cons byte rest ih =>
    rw [initRun_cons_afterCommand, ih, afterCommand_initWarn, afterCommand_nextAnswer, Bool.or_eq_true, or_assoc,
      List.length_cons, Nat.exists_lt_succ_left]

/-! ## INIT -/

/-- INIT as its power-up sequence is about to be sent. -/
def initStart (busId : Byte) (address : BitVec 7) (s : State) : State := withInitIdx 0#6 (freshDevice busId address s)

/-- All of INIT but the effects of the sequence: the response, the Device registers, the framebuffer and the kept working
registers are those it had before the sequence (41_init R120). -/
theorem initDevice_frame (busId : Byte) (address : BitVec 7) (s : State) :
    ∃ trace answers draws idx warn, initDevice Config.allocCanFail busId address s =
      complete (forgetInit { initStart busId address s with
        trace := trace, answers := answers, answerDraws := draws, initIdx := idx, initWarn := warn }) := by
  obtain ⟨trace, answers, draws, idx, warn, run⟩ := initRun_frame initBytes (initStart busId address s)
  exact ⟨trace, answers, draws, idx, warn, by rw [initDevice_eq, ← run]; rfl⟩

theorem freshDevice_read (busId : Byte) (address : BitVec 7) (s : State) (addr : Nat) :
    (freshDevice busId address s).fb.read addr = if addr < 2048 then 0x00#8 else s.fb.read addr := by
  rw [freshDevice, withDevValid_fb, fillBytes_read]
  simp [Config.fbBytes]

/-- Settles O16: the sequence gives the trace, the answers used up and `INIT_WARN`; the rest is as before the sequence. -/
theorem initCreatesTheDevice : Obligations.InitCreatesTheDevice := by
  intro busId address s
  have body := initDevice_eq busId address s
  obtain ⟨_, _, _, _, _, frame⟩ := initDevice_frame busId address s
  obtain ⟨operands, host⟩ := initDevice_sameInputs busId address s
  refine ⟨initDevice Config.allocCanFail busId address s, rfl, ?answered, ?valid, ?bus, ?address, fun addr below => ?zero,
    fun addr outside => ?kept, ?trace, ?warn, fun k => ?answers, operands, host, ?line, ?text, ?scan⟩
  case answered => rw [frame]; exact answered_respond rfl
  case zero =>
    rw [frame]
    exact (freshDevice_read busId address s addr).trans (if_pos below)
  case kept =>
    rw [frame]
    exact (freshDevice_read busId address s addr).trans (if_neg (by omega))
  case trace =>
    rw [body]
    exact initRun_trace initBytes (initStart busId address s)
  case warn =>
    simp only [← isErr_iff, exists_and_left]
    rw [body]
    exact (initRun_initWarn initBytes (initStart busId address s)).trans (or_iff_right Bool.false_ne_true)
  case answers =>
    rw [body]
    exact initRun_nextAnswer initBytes (initStart busId address s) k
  all_goals rw [frame]; rfl

/-! ## RELEASE -/

/-- Settles O19: with a Device the body runs, and what it forgets are the device registers and the 2048 bytes. -/
theorem releaseDropsTheDevice : Obligations.ReleaseDropsTheDevice := by
  intro s valid
  refine ⟨releaseDevice s, exec_eq_operation (.inr valid), answered_respond rfl, rfl, rfl, fun addr outside => ?kept,
    ⟨rfl, rfl, rfl⟩, ⟨rfl, rfl, rfl, rfl, rfl, rfl⟩, ⟨rfl, rfl, rfl, rfl, rfl⟩, rfl, rfl⟩
  case kept => exact forgetDevice_read_of_ge (dropDevice (enter .release s)) addr (by simp only [Config.fbBytes]; omega)

/-- Settles O17: RELEASE sends nothing and uses up no answer, and INIT gives every one of these values from its operands,
the trace and the coming answers alone. -/
theorem reinitIsReleaseThenInit : Obligations.ReinitIsReleaseThenInit := by
  intro busId address s u _ released
  obtain ⟨trace, answers, draws⟩ := drawingNeverReachesTheBus .release s u (by simp [Instr.mnemonic]) released
  have coming : u.nextAnswer = s.nextAnswer := funext (nextAnswer_congr answers draws)
  obtain ⟨t, runT, answeredT, validT, busT, addressT, zeroT, -, traceT, warnT, -⟩ := initCreatesTheDevice busId address s
  obtain ⟨v, runV, answeredV, validV, busV, addressV, zeroV, -, traceV, warnV, -⟩ := initCreatesTheDevice busId address u
  rw [trace, coming] at traceV
  rw [coming] at warnV
  refine ⟨t, v, runT, runV, validV.trans validT.symm, busV.trans busT.symm, addressV.trans addressT.symm, ?status,
    traceV.trans traceT.symm, fun addr below => (zeroV addr below).trans (zeroT addr below).symm⟩
  case status =>
    exact status_eq_iff.2 ⟨answeredV.busy.trans answeredT.busy.symm, validV.trans validT.symm,
      Bool.eq_iff_iff.2 (warnV.trans warnT.symm), answeredV.result.trans answeredT.result.symm,
      answeredV.information.trans answeredT.information.symm⟩

/-! ## A failed allocation -/

/-- INIT where the allocator answers `Fail` (41_init R122). -/
theorem initDevice_of_fail (busId : Byte) (address : BitVec 7) {s : State} {rest : List AllocAnswer}
    (failed : s.allocs = .fail :: rest) : initDevice true busId address s =
      raise .allocFail 0#8 (forgetDevice { dropDevice (enter .init s) with allocs := rest }) := by
  have answer : allocate true (dropDevice (enter .init s)) = (.fail, { dropDevice (enter .init s) with allocs := rest }) := by
    simp [allocate, failed]
  rw [initDevice, answer]

/-- Settles O18: a failed allocation ends INIT after the Device is dropped and before anything is sent; with the parameter
as it is INIT answers `OK`. -/
theorem failedAllocationLeavesNoDevice : Obligations.FailedAllocationLeavesNoDevice := by
  refine ⟨fun busId address s rest failed => ?failing, fun busId address s t run => ?granted⟩
  case failing =>
    rw [initDevice_of_fail busId address failed]
    exact ⟨answered_respond rfl, rfl, rfl, rfl, rfl, ⟨rfl, rfl, rfl⟩, ⟨rfl, rfl, rfl, rfl, rfl, rfl⟩,
      ⟨rfl, rfl, rfl, rfl, rfl⟩⟩
  case granted =>
    obtain ⟨t', run', answered, -⟩ := initCreatesTheDevice busId address s
    obtain rfl := Host.Outcome.next.inj (run'.symm.trans run)
    rw [answered.result]
    nofun

end Sys2Proof.Machine
end

section
/-! CLEAR and SET_POINT as a whole (42_clear_point R130 to R134): a fill is read byte by byte, a point write bit by bit, and
each operation's result is the framebuffer it writes or, out of bounds, the response alone. -/

namespace Sys2Proof.Machine

open Sys2Proof.Safety

/-! ## One bit of a byte, one pixel of the framebuffer -/

/-- The mask of a row is the one bit of that row (00_scope R16). -/
theorem pixelMask_getLsbD (y : Int) (bit : Nat) : (pixelMask y).getLsbD bit = decide (bit = y.toNat % 8) := by
  rw [pixelMask, ← BitVec.twoPow_eq, BitVec.getLsbD_twoPow]
  have row : y.toNat % 8 < 8 := Nat.mod_lt _ (by decide)
  simp [row, eq_comm]

/-- Setting or clearing a pixel writes its bit and keeps the other bits of the byte (42_clear_point R132). -/
theorem withPixel_getLsbD (on : Bool) (y : Int) (v : Byte) (bit : Nat) :
    (withPixel on y v).getLsbD bit = if bit = y.toNat % 8 then on else v.getLsbD bit := by
  have row : y.toNat % 8 < 8 := Nat.mod_lt _ (by decide)
  split
  · next same => cases on <;> simp [withPixel, pixelMask_getLsbD, same, row]
  · next other =>
    cases on with
    | true => simp [withPixel, pixelMask_getLsbD, other]
    | false => simpa [withPixel, pixelMask_getLsbD, other] using BitVec.lt_of_getLsbD

/-- The byte of a point write, bit by bit. -/
theorem read_writePixel_getLsbD (m : Memory) (on : Bool) (x y : Int) (bit : Nat) :
    ((m.writePixel on x y).read (pixelIndex x y)).getLsbD bit =
      if bit = y.toNat % 8 then on else (m.read (pixelIndex x y)).getLsbD bit := by
  rw [read_writePixel, if_pos rfl, withPixel_getLsbD]

/-- A point write gives its own pixel the value, in bounds or not. -/
theorem pixel_writePixel_self (m : Memory) (on : Bool) (x y : Int) : (m.writePixel on x y).pixel x y = on := by
  rw [Memory.pixel, read_writePixel_getLsbD, if_pos rfl]

/-- A point write changes one pixel: another one lies in another byte, or is another bit of the same byte. -/
theorem pixel_writePixel (m : Memory) (on : Bool) {x y x' y' : Int} (inside : inBounds x y = true)
    (inside' : inBounds x' y' = true) :
    (m.writePixel on x y).pixel x' y' = if x' = x ∧ y' = y then on else m.pixel x' y' := by
  split
  · next same =>
    obtain ⟨rfl, rfl⟩ := same
    exact pixel_writePixel_self m on x' y'
  · next other =>
    unfold Memory.pixel
    by_cases index : pixelIndex x' y' = pixelIndex x y
    · have bit : y'.toNat % 8 ≠ y.toNat % 8 := fun bit => other (pixel_eq_of_index_eq_of_bit_eq inside' inside index bit)
      rw [index, read_writePixel_getLsbD, if_neg bit]
    · rw [read_writePixel, if_neg index]

/-! ## CLEAR -/

/-- What any byte reads as after CLEAR. -/
theorem clearScreen_read (fill : Bool) (s : State) (addr : Nat) :
    (clearScreen fill s).fb.read addr = if addr < 2048 then fillValue fill else s.fb.read addr := by
  rw [clearScreen, complete_eq, respond_fb, forgetFill_fb, fillBytes_read]
  simp [Config.fbBytes]

/-- Settles O20: with a Device the body runs; it fills the 2048 bytes and of the working registers it writes
`FILL_IDX` alone. -/
theorem clearFillsTheFramebuffer : Obligations.ClearFillsTheFramebuffer := by
  intro fill s valid
  refine ⟨clearScreen fill s, exec_eq_operation (.inr valid), answered_respond rfl, fun addr below => ?filled,
    fun addr outside => ?kept, ⟨rfl, rfl, rfl, rfl⟩, ⟨rfl, rfl, rfl⟩, ⟨rfl, rfl, rfl, rfl, rfl, rfl⟩, ⟨rfl, rfl⟩,
    rfl, rfl, rfl, rfl⟩
  case filled => rw [clearScreen_read, if_pos below]; rfl
  case kept => rw [clearScreen_read, if_neg (by omega)]

/-! ## SET_POINT -/

/-- SET_POINT in bounds: the point write, and nothing else before the response. -/
theorem exec_setPoint_of_inBounds {x y : Half} {s : State} (on : Bool) (valid : s.devValid = true)
    (inside : inBounds x.toInt y.toInt = true) : exec (.setPoint x y on) s =
      .next (complete (withFb (s.fb.writePixel on x.toInt y.toInt) (enter .setPoint s))) :=
  (exec_eq_operation (.inr valid)).trans (congrArg Host.Outcome.next (if_pos inside))

/-- SET_POINT out of bounds: the response alone. -/
theorem exec_setPoint_of_not_inBounds {x y : Half} {s : State} (on : Bool) (valid : s.devValid = true)
    (outside : ¬ inBounds x.toInt y.toInt = true) : exec (.setPoint x y on) s = .next (raise .rangeErr 0#8 s) :=
  (exec_eq_operation (.inr valid)).trans (congrArg Host.Outcome.next (if_neg outside))

/-- Settles O22: the byte of the point takes `withPixel`, so of its eight pixels only the point changes. -/
theorem setPointWritesOneBit : Obligations.SetPointWritesOneBit := by
  intro x y on s valid inside
  refine ⟨_, exec_setPoint_of_inBounds on valid inside, answered_respond rfl, ?byte,
    fun x' y' inside' => pixel_writePixel s.fb on inside inside', fun addr other => ?others, ⟨rfl, rfl, rfl, rfl⟩,
    ⟨rfl, rfl, rfl⟩, ⟨rfl, rfl, rfl, rfl, rfl, rfl⟩, ⟨rfl, rfl, rfl, rfl, rfl⟩, rfl, rfl⟩
  case byte => exact (read_writePixel s.fb on x.toInt y.toInt _).trans (if_pos rfl)
  case others => exact (read_writePixel s.fb on x.toInt y.toInt addr).trans (if_neg other)

/-- Settles O23: the signed bounds check fails, and its answer changes no state but the result. -/
theorem setPointOutOfBoundsChangesNothing : Obligations.SetPointOutOfBoundsChangesNothing := by
  intro x y on s valid range
  have outside : ¬ inBounds x.toInt y.toInt = true := by rw [inBounds_iff]; omega
  exact ⟨_, exec_setPoint_of_not_inBounds on valid outside, answered_respond rfl, fun _ => rfl, ⟨rfl, rfl, rfl, rfl⟩,
    ⟨rfl, rfl, rfl⟩, ⟨rfl, rfl, rfl, rfl, rfl, rfl⟩, ⟨rfl, rfl, rfl, rfl, rfl⟩, rfl, rfl⟩

/-- Settles O24: the second point write is to the bit of the first, so the other seven bits are kept by both; out of bounds
nothing is written. -/
theorem setPointReadsBack : Obligations.SetPointReadsBack := by
  refine ⟨fun x y s valid inside => ?inside, fun x y on s valid outside => ?outside⟩
  case inside =>
    refine ⟨_, _, exec_setPoint_of_inBounds true valid inside, exec_setPoint_of_inBounds false valid inside,
      pixel_writePixel_self _ true _ _, pixel_writePixel_self _ false _ _, fun bit other => ?bits⟩
    have lit := (read_writePixel_getLsbD s.fb true x.toInt y.toInt bit).trans (if_neg other)
    exact ⟨lit, ((read_writePixel_getLsbD _ false x.toInt y.toInt bit).trans (if_neg other)).trans lit⟩
  case outside =>
    exact ⟨_, exec_setPoint_of_not_inBounds on valid (Bool.not_eq_true _ ▸ outside), rfl, fun _ => rfl⟩

end Sys2Proof.Machine
end

section
/-! The line path on unbounded integers (43_line R141 to R145). The state of the algorithm is determined by how many steps
were made along each axis, so what the path does is arithmetic on two counts; the two axes are exchanged by
`lineSteps_swap`. -/

namespace Sys2Proof.Safety

/-! ## How many steps along each axis -/

/-- With `a` steps made along an axis of length `m` and `b` along the other, of length `n`, the next move steps along the
first. With `ERR = DX × (b + 1) - DY × (a + 1)` this is `E2 > -DY` for the x axis and `E2 < DX` for the y axis
(`stepDue_x`, `stepDue_y`). -/
def stepDue (m n a b : Nat) : Bool := decide (n * (2 * a + 1) < m * (2 * b + 2))

/-- How many steps were made along axes of lengths `m` and `n` after `k` moves. -/
def lineSteps (m n : Nat) : Nat → Nat × Nat
  | 0 => (0, 0)
  | k + 1 =>
    let (a, b) := lineSteps m n k
    (a + (stepDue m n a b).toNat, b + (stepDue n m b a).toNat)

theorem lineSteps_succ (m n k : Nat) : lineSteps m n (k + 1) =
    ((lineSteps m n k).1 + (stepDue m n (lineSteps m n k).1 (lineSteps m n k).2).toNat,
      (lineSteps m n k).2 + (stepDue n m (lineSteps m n k).2 (lineSteps m n k).1).toNat) := rfl

/-- The two axes are treated alike. -/
theorem lineSteps_swap (m n k : Nat) : lineSteps n m k = (lineSteps m n k).swap := by
  induction k with
  | zero => rfl
  | succ k ih => rw [lineSteps_succ, lineSteps_succ, ih]; rfl

/-- Along the longer axis every move is a step, and the steps `b` along the other stay within one half of `k × n / m`
from below and one whole from above (43_line R143, R144). -/
theorem lineSteps_of_le {m n : Nat} (longer : n ≤ m) (pos : 0 < m) (k : Nat) :
    ∃ b, lineSteps m n k = (k, b) ∧ n * (2 * k + 1) < m * (2 * b + 2) ∧ m * (2 * b) < n * (2 * k) + m := by
  induction k with
  | zero => exact ⟨0, rfl, by omega, by omega⟩
  | succ k ih =>
    obtain ⟨b, steps, due, high⟩ := ih
    have major : stepDue m n k b = true := decide_eq_true due
    rw [lineSteps_succ, steps, major]
    cases minor : stepDue n m b k with
    | true =>
      have due' : m * (2 * b + 1) < n * (2 * k + 2) := of_decide_eq_true minor
      exact ⟨b + 1, rfl, by linarith, by linarith⟩
    | false =>
      have notDue : n * (2 * k + 2) ≤ m * (2 * b + 1) := not_lt.1 (of_decide_eq_false minor)
      refine ⟨b, rfl, ?_, by linarith⟩
      rcases longer.lt_or_eq with shorter | rfl <;> linarith

/-- Where the steps stand after `k` moves, `k` at most the length of the longer axis. -/
structure LineProgress (m n k a b : Nat) : Prop where
  alongFirst : n ≤ m → a = k
  alongSecond : m ≤ n → b = k
  first_le : a ≤ m
  second_le : b ≤ n
  last : k = max m n → a = m ∧ b = n
  /-- `-(3/2) DY ≤ ERR` -/
  low : 2 * (n * (a + 1)) ≤ 2 * (m * (b + 1)) + 3 * n
  /-- `ERR ≤ (3/2) DX` -/
  high : 2 * (m * (b + 1)) ≤ 2 * (n * (a + 1)) + 3 * m

theorem LineProgress.swap {m n k a b : Nat} (h : LineProgress m n k a b) : LineProgress n m k b a where
  alongFirst := h.alongSecond
  alongSecond := h.alongFirst
  first_le := h.second_le
  second_le := h.first_le
  last whole := (h.last (whole.trans (max_comm n m))).symm
  low := h.high
  high := h.low

theorem lineProgress_of_le {m n k : Nat} (longer : n ≤ m) (within : k ≤ m) :
    LineProgress m n k (lineSteps m n k).1 (lineSteps m n k).2 := by
  rcases m.eq_zero_or_pos with rfl | pos
  · obtain rfl : n = 0 := by omega
    obtain rfl : k = 0 := by omega
    constructor <;> simp [lineSteps]
  obtain ⟨b, steps, due, high⟩ := lineSteps_of_le longer pos k
  rw [steps]
  have shorter : n * k ≤ n * m := Nat.mul_le_mul_left n within
  have second : b ≤ n := by
    have : 2 * b < 2 * n + 1 := Nat.lt_of_mul_lt_mul_left (a := m) (by linarith)
    omega
  refine ⟨fun _ => rfl, fun equal => ?diagonal, within, second, fun whole => ⟨?first, ?whole⟩, by linarith, by linarith⟩
  case diagonal =>
    obtain rfl : m = n := by omega
    have below : 2 * k + 1 < 2 * b + 2 := Nat.lt_of_mul_lt_mul_left due
    have above : 2 * b < 2 * k + 1 := Nat.lt_of_mul_lt_mul_left (a := m) (by linarith)
    omega
  case first => omega
  case whole =>
    obtain rfl : k = m := by omega
    have above : 2 * n < 2 * b + 2 := Nat.lt_of_mul_lt_mul_left (a := k) (by linarith)
    omega

theorem lineProgress {m n k : Nat} (within : k ≤ max m n) :
    LineProgress m n k (lineSteps m n k).1 (lineSteps m n k).2 := by
  rcases le_total n m with longer | longer
  · exact lineProgress_of_le longer (by omega)
  · rw [lineSteps_swap n m]
    exact (lineProgress_of_le longer (by omega)).swap

/-! ## The state of the algorithm after those steps -/

/-- `n` steps from `p` in the direction of `q`. -/
def toward (p q : Int) (n : Nat) : Int := p + if p < q then (n : Int) else -n

@[simp] theorem toward_zero (p q : Int) : toward p q 0 = p := by simp [toward]

theorem toward_add_one (p q : Int) (n : Nat) : toward p q (n + 1) = toward p q n + if p < q then 1 else -1 := by
  unfold toward
  split <;> push_cast <;> ring

theorem toward_eq_iff (p q : Int) (n : Nat) : toward p q n = q ↔ n = (q - p).natAbs := by
  unfold toward
  split <;> omega

/-- Steps within the distance stay between the two ends. -/
theorem toward_between {p q : Int} {n : Nat} (within : n ≤ (q - p).natAbs) :
    min p q ≤ toward p q n ∧ toward p q n ≤ max p q := by
  unfold toward
  split <;> omega

/-- A coordinate over one move: a step or none. -/
theorem toward_add_toNat (p q : Int) (n : Nat) (due : Bool) :
    toward p q (n + due.toNat) = if due then toward p q n + (if p < q then 1 else -1) else toward p q n := by
  cases due
  · rfl
  · exact toward_add_one p q n

section
variable (x0 y0 x1 y1 : Int)

/-- The quantities of the algorithm after `a` steps along x and `b` along y. -/
def LineState.after (a b : Nat) : LineState :=
  { LineState.start x0 y0 x1 y1 with
    cx := toward x0 x1 a, cy := toward y0 y1 b, err := |x1 - x0| * (b + 1) - |y1 - y0| * (a + 1) }

theorem LineState.start_eq_after : LineState.start x0 y0 x1 y1 = LineState.after x0 y0 x1 y1 0 0 := by
  simp [LineState.after, LineState.start]

/-- The test of the x step (43_line R141). -/
theorem stepDue_x (a b : Nat) :
    decide (2 * (LineState.after x0 y0 x1 y1 a b).err > -(LineState.after x0 y0 x1 y1 a b).dy) =
      stepDue (x1 - x0).natAbs (y1 - y0).natAbs a b := by
  simp only [stepDue, LineState.after, LineState.start, ← Int.natCast_natAbs, decide_eq_decide]
  zify
  constructor <;> intro <;> linarith

/-- The test of the y step (43_line R141). -/
theorem stepDue_y (a b : Nat) :
    decide (2 * (LineState.after x0 y0 x1 y1 a b).err < (LineState.after x0 y0 x1 y1 a b).dx) =
      stepDue (y1 - y0).natAbs (x1 - x0).natAbs b a := by
  simp only [stepDue, LineState.after, LineState.start, ← Int.natCast_natAbs, decide_eq_decide]
  zify
  constructor <;> intro <;> linarith

theorem LineState.move_after (a b : Nat) : (LineState.after x0 y0 x1 y1 a b).move =
    LineState.after x0 y0 x1 y1 (a + (stepDue (x1 - x0).natAbs (y1 - y0).natAbs a b).toNat)
      (b + (stepDue (y1 - y0).natAbs (x1 - x0).natAbs b a).toNat) := by
  unfold LineState.move
  rw [stepDue_x, stepDue_y]
  simp only [LineState.after, LineState.start, toward_add_toNat, LineState.mk.injEq, true_and]
  generalize stepDue (x1 - x0).natAbs (y1 - y0).natAbs a b = xDue
  generalize stepDue (y1 - y0).natAbs (x1 - x0).natAbs b a = yDue
  cases xDue <;> cases yDue <;> simp <;> ring

/-- The steps along the axes of this line after `k` moves. -/
def stepsAfter (k : Nat) : Nat × Nat := lineSteps (x1 - x0).natAbs (y1 - y0).natAbs k

/-- The quantities after `k` moves are those after the steps these moves make. -/
theorem LineState.iterate_move_start (k : Nat) :
    LineState.move^[k] (LineState.start x0 y0 x1 y1) =
      LineState.after x0 y0 x1 y1 (stepsAfter x0 y0 x1 y1 k).1 (stepsAfter x0 y0 x1 y1 k).2 := by
  induction k with
  | zero => exact LineState.start_eq_after x0 y0 x1 y1
  | succ k ih =>
    rw [Function.iterate_succ_apply', ih, LineState.move_after]
    rfl

/-! ## The loop -/

/-- The algorithm is at its end exactly when both distances are covered. -/
theorem LineState.done_after_iff (a b : Nat) :
    (LineState.after x0 y0 x1 y1 a b).done = true ↔ a = (x1 - x0).natAbs ∧ b = (y1 - y0).natAbs := by
  rw [← toward_eq_iff, ← toward_eq_iff]
  exact decide_eq_true_iff

/-- The point after `k` moves. -/
def linePoint (k : Nat) : Int × Int :=
  (toward x0 x1 (stepsAfter x0 y0 x1 y1 k).1, toward y0 y1 (stepsAfter x0 y0 x1 y1 k).2)

/-- The steps of this line within its moves. -/
theorem lineProgress_stepsAfter {k : Nat} (within : k < lineLength x0 y0 x1 y1) :
    LineProgress (x1 - x0).natAbs (y1 - y0).natAbs k (stepsAfter x0 y0 x1 y1 k).1 (stepsAfter x0 y0 x1 y1 k).2 :=
  lineProgress (Nat.lt_succ_iff.1 within)

/-- The end is reached by the last of the `max(DX, DY)` moves and by none before (43_line R144). -/
theorem done_iterate_iff {k : Nat} (within : k < lineLength x0 y0 x1 y1) :
    (LineState.move^[k] (LineState.start x0 y0 x1 y1)).done = true ↔ k + 1 = lineLength x0 y0 x1 y1 := by
  have progress := lineProgress_stepsAfter x0 y0 x1 y1 within
  rw [LineState.iterate_move_start, LineState.done_after_iff, lineLength]
  constructor
  · rintro ⟨first, second⟩
    rcases le_total (y1 - y0).natAbs (x1 - x0).natAbs with longer | longer
    · have := progress.alongFirst longer
      omega
    · have := progress.alongSecond longer
      omega
  · exact fun whole => progress.last (by omega)

end

/-- A loop that reaches its end after `m` moves visits the points before each of them and the last. -/
theorem LineState.visit_eq_map {l : LineState} {m n : Nat} (going : ∀ j < m, (LineState.move^[j] l).done = false)
    (stop : (LineState.move^[m] l).done = true) (enough : m < n) :
    LineState.visit n l =
      (List.range (m + 1)).map fun j => ((LineState.move^[j] l).cx, (LineState.move^[j] l).cy) := by
  induction m generalizing l n with
  | zero =>
    obtain ⟨n, rfl⟩ := Nat.exists_eq_succ_of_ne_zero enough.ne'
    have done : l.done = true := stop
    simp [LineState.visit, done]
  | succ m ih =>
    obtain ⟨n, rfl⟩ := Nat.exists_eq_succ_of_ne_zero (Nat.ne_zero_of_lt enough)
    have goes : l.done = false := going 0 (Nat.succ_pos m)
    have rest := ih (l := l.move) (fun j hj => going (j + 1) (by omega)) stop (Nat.lt_of_succ_lt_succ enough)
    rw [List.range_succ_eq_map, LineState.visit, goes, List.map_cons, List.map_map]
    exact congrArg _ rest

/-- With any sufficient allowance the loop visits the points after `0, 1, …, max(DX, DY)` moves (43_line R144). -/
theorem visit_start_eq_map (x0 y0 x1 y1 : Int) {n : Nat} (enough : lineLength x0 y0 x1 y1 ≤ n) :
    LineState.visit n (LineState.start x0 y0 x1 y1) =
      (List.range (lineLength x0 y0 x1 y1)).map (linePoint x0 y0 x1 y1) := by
  have pos : 0 < lineLength x0 y0 x1 y1 := Nat.succ_pos _
  obtain ⟨m, whole⟩ := Nat.exists_eq_add_one.2 pos
  rw [LineState.visit_eq_map (m := m) (fun j hj => ?going) ?stop (by omega), whole]
  · refine List.map_congr_left fun k _ => ?_
    rw [LineState.iterate_move_start]
    rfl
  case going =>
    rw [← Bool.not_eq_true, done_iterate_iff x0 y0 x1 y1 (by omega)]
    omega
  case stop => exact (done_iterate_iff x0 y0 x1 y1 (by omega)).2 whole.symm

theorem linePath_eq_map (x0 y0 x1 y1 : Int) :
    linePath x0 y0 x1 y1 = (List.range (lineLength x0 y0 x1 y1)).map (linePoint x0 y0 x1 y1) :=
  visit_start_eq_map x0 y0 x1 y1 le_rfl

/-! ## Rows, columns, diagonals (43_line R145) -/

/-- A path is known from its length and from what its progress says of each point. -/
theorem linePath_eq_map_of_progress {x0 y0 x1 y1 : Int} {n : Nat} {point : Nat → Int × Int}
    (length : lineLength x0 y0 x1 y1 = n)
    (points : ∀ k a b, LineProgress (x1 - x0).natAbs (y1 - y0).natAbs k a b → (toward x0 x1 a, toward y0 y1 b) = point k) :
    linePath x0 y0 x1 y1 = (List.range n).map point := by
  rw [linePath_eq_map, length]
  exact List.map_congr_left fun k hk =>
    points k _ _ (lineProgress_stepsAfter x0 y0 x1 y1 (length ▸ List.mem_range.1 hk))

/-- Settles O28: along an axis of length 0 there is no step, and along an axis as long as the line every move is one. -/
theorem axisAlignedAndDiagonalLines : Obligations.AxisAlignedAndDiagonalLines := by
  refine ⟨fun x0 x1 y => ?row, fun x y0 y1 => ?column, fun x0 y0 x1 y1 equal => ?diagonal⟩
  case row =>
    refine linePath_eq_map_of_progress (by simp [lineLength]) fun k a b progress => ?_
    obtain rfl : b = 0 := by simpa using progress.second_le
    rw [progress.alongFirst (by omega), toward_zero]
    rfl
  case column =>
    refine linePath_eq_map_of_progress (by simp [lineLength]) fun k a b progress => ?_
    obtain rfl : a = 0 := by simpa using progress.first_le
    rw [progress.alongSecond (by omega), toward_zero]
    rfl
  case diagonal =>
    refine linePath_eq_map_of_progress (by simp [lineLength, equal]) fun k a b progress => ?_
    rw [progress.alongFirst equal.ge, progress.alongSecond equal.le]
    rfl

/-! ## One move of the path (43_line R142, R144) -/

/-- A coordinate after a step that may be due. -/
theorem toward_step_or_stay (p q : Int) (n : Nat) (due : Bool) :
    toward p q (n + due.toNat) = toward p q n ∨
      toward p q (n + due.toNat) = toward p q n + (if p < q then 1 else -1) := by
  rw [toward_add_toNat]
  cases due
  · exact .inl rfl
  · exact .inr rfl

theorem toward_add_one_ne (p q : Int) (n : Nat) : toward p q (n + 1) ≠ toward p q n := by
  rw [toward_add_one]
  split <;> omega

theorem linePath_getElem? {x0 y0 x1 y1 : Int} {k : Nat} {p : Int × Int} (h : (linePath x0 y0 x1 y1)[k]? = some p) :
    k < lineLength x0 y0 x1 y1 ∧ p = linePoint x0 y0 x1 y1 k := by
  rw [linePath_eq_map] at h
  obtain ⟨within, rfl⟩ := List.getElem?_eq_some_iff.1 h
  exact ⟨by simpa using within, by simp⟩

/-- The points of the path: as many as the line is long, from one end to the other (43_line R144). -/
theorem linePath_ends (x0 y0 x1 y1 : Int) : (linePath x0 y0 x1 y1).length = lineLength x0 y0 x1 y1 ∧
    (linePath x0 y0 x1 y1)[0]? = some (x0, y0) ∧ (linePath x0 y0 x1 y1).getLast? = some (x1, y1) := by
  obtain ⟨first, second⟩ := (lineProgress_stepsAfter x0 y0 x1 y1 (Nat.lt_succ_self _)).last rfl
  have final : linePoint x0 y0 x1 y1 (max (x1 - x0).natAbs (y1 - y0).natAbs) = (x1, y1) := by
    rw [linePoint, (toward_eq_iff ..).2 first, (toward_eq_iff ..).2 second]
  rw [linePath_eq_map, lineLength]
  refine ⟨by simp, ?_, ?_⟩
  · simp [linePoint, stepsAfter, lineSteps]
  · rw [List.range_succ, List.map_append, List.map_singleton, List.getLast?_concat, final]

/-- Consecutive points: each coordinate stays or steps towards the end, along the longer axis it steps (43_line R144). -/
theorem linePoint_succ {x0 y0 x1 y1 : Int} {k : Nat} (within : k + 1 < lineLength x0 y0 x1 y1) :
    let p := linePoint x0 y0 x1 y1 k
    let q := linePoint x0 y0 x1 y1 (k + 1)
    (q.1 = p.1 ∨ q.1 = p.1 + (if x0 < x1 then 1 else -1)) ∧
    (q.2 = p.2 ∨ q.2 = p.2 + (if y0 < y1 then 1 else -1)) ∧
    ((y1 - y0).natAbs ≤ (x1 - x0).natAbs → q.1 ≠ p.1) ∧
    ((x1 - x0).natAbs ≤ (y1 - y0).natAbs → q.2 ≠ p.2) := by
  have before := lineProgress_stepsAfter x0 y0 x1 y1 (Nat.lt_of_succ_lt within)
  have after := lineProgress_stepsAfter x0 y0 x1 y1 within
  refine ⟨toward_step_or_stay .., toward_step_or_stay .., fun longer => ?x, fun longer => ?y⟩
  case x =>
    rw [linePoint, linePoint, before.alongFirst longer, after.alongFirst longer]
    exact toward_add_one_ne x0 x1 k
  case y =>
    rw [linePoint, linePoint, before.alongSecond longer, after.alongSecond longer]
    exact toward_add_one_ne y0 y1 k

end Sys2Proof.Safety
end

section
/-! The line rasterizer on its working registers (43_line R141, R143): within the bounds of R143 the narrowed registers hold
the integers of the path after every move. -/

namespace Sys2Proof.Machine

open Sys2Proof.Safety

/-! ## The registers hold the integers -/

/-- The line registers hold the quantities of the algorithm; `E2` is written anew in every move. -/
structure LineRegs.Holds (r : LineRegs) (l : LineState) : Prop where
  cx : r.cx.toInt = l.cx
  cy : r.cy.toInt = l.cy
  ex : r.ex.toInt = l.ex
  ey : r.ey.toInt = l.ey
  dx : (r.dx.toNat : Int) = l.dx
  dy : (r.dy.toNat : Int) = l.dy
  sx : stepOf r.sx = l.sx
  sy : stepOf r.sy = l.sy
  err : r.err.toInt = l.err

/-- The bounds under which the widths of 10_state R22 lose nothing (43_line R143). -/
structure LineFits (l : LineState) : Prop where
  cx : -32768 ≤ l.cx ∧ l.cx < 32768
  cy : -32768 ≤ l.cy ∧ l.cy < 32768
  dx : 0 ≤ l.dx ∧ l.dx < 65536
  dy : 0 ≤ l.dy ∧ l.dy < 65536
  low : -3 * l.dy ≤ 2 * l.err
  high : 2 * l.err ≤ 3 * l.dx

/-- The x step on integers, on a given `e2`. -/
def lineStepX (e2 : Int) (l : LineState) : LineState :=
  if e2 > -l.dy then { l with err := l.err - l.dy, cx := l.cx + l.sx } else l

/-- The y step on integers, on a given `e2`. -/
def lineStepY (e2 : Int) (l : LineState) : LineState :=
  if e2 < l.dx then { l with err := l.err + l.dx, cy := l.cy + l.sy } else l

/-- A move is the x step and then the y step, both on `2 × err` from before either (43_line R142). -/
theorem move_eq_steps (l : LineState) : l.move = lineStepY (2 * l.err) (lineStepX (2 * l.err) l) := by
  unfold LineState.move lineStepX lineStepY
  by_cases x : 2 * l.err > -l.dy <;> by_cases y : 2 * l.err < l.dx <;> simp [x, y]

theorem lineStepX_err (e2 : Int) (l : LineState) :
    (lineStepX e2 l).err = if e2 > -l.dy then l.err - l.dy else l.err := by
  unfold lineStepX
  split <;> rfl

@[simp] theorem lineStepY_cx (e2 : Int) (l : LineState) : (lineStepY e2 l).cx = l.cx := by
  unfold lineStepY
  split <;> rfl

@[simp] theorem stepX_e2 (r : LineRegs) : r.stepX.e2 = r.e2 := by
  unfold LineRegs.stepX
  split <;> rfl

/-- The bound on `ERR` (43_line R143), well inside its 18 bits. -/
theorem LineFits.abs_err {l : LineState} (fits : LineFits l) : |l.err| < 98304 := by
  obtain ⟨_, _, dx, dy, low, high⟩ := fits
  rw [abs_lt]
  omega

namespace LineRegs.Holds

variable {r : LineRegs} {l : LineState}

theorem double (h : r.Holds l) : r.double.Holds l := { h with }

theorem e2_double (h : r.Holds l) (fits : LineFits l) : r.double.e2.toInt = 2 * l.err := by
  have bound := abs_lt.1 fits.abs_err
  rw [← h.err] at bound ⊢
  exact BitVec.toInt_ofInt_eq_self (by decide) (by omega) (by omega)

theorem stepX (h : r.Holds l) {e2 : Int} (he2 : r.e2.toInt = e2)
    (cx : -32768 ≤ (lineStepX e2 l).cx ∧ (lineStepX e2 l).cx < 32768)
    (err : -131072 ≤ (lineStepX e2 l).err ∧ (lineStepX e2 l).err < 131072) : r.stepX.Holds (lineStepX e2 l) := by
  unfold LineRegs.stepX lineStepX at *
  rw [he2, h.dy]
  split
  · next due =>
    rw [if_pos due] at cx err
    rw [h.cx, h.sx, h.err]
    exact { h with
      cx := BitVec.toInt_ofInt_eq_self (by decide) cx.1 cx.2
      err := BitVec.toInt_ofInt_eq_self (by decide) err.1 err.2 }
  · exact h

theorem stepY (h : r.Holds l) {e2 : Int} (he2 : r.e2.toInt = e2)
    (cy : -32768 ≤ (lineStepY e2 l).cy ∧ (lineStepY e2 l).cy < 32768)
    (err : -131072 ≤ (lineStepY e2 l).err ∧ (lineStepY e2 l).err < 131072) : r.stepY.Holds (lineStepY e2 l) := by
  unfold LineRegs.stepY lineStepY at *
  rw [he2, h.dx]
  split
  · next due =>
    rw [if_pos due] at cy err
    rw [h.cy, h.sy, h.err]
    exact { h with
      cy := BitVec.toInt_ofInt_eq_self (by decide) cy.1 cy.2
      err := BitVec.toInt_ofInt_eq_self (by decide) err.1 err.2 }
  · exact h

/-- A move that stays within the bounds keeps the registers equal to the integers: `ERR` between the two steps is within
them too (43_line R143). -/
theorem move (h : r.Holds l) (fits : LineFits l) (fits' : LineFits l.move) : r.move.Holds l.move := by
  have e2 := h.e2_double fits
  have e2' : r.double.stepX.e2.toInt = 2 * l.err := by rw [stepX_e2, e2]
  have err' := abs_lt.1 fits'.abs_err
  obtain ⟨_, _, dx, dy, low, high⟩ := fits
  rw [move_eq_steps] at fits' err' ⊢
  refine (h.double.stepX e2 (lineStepY_cx _ _ ▸ fits'.cx) ?_).stepY e2' fits'.cy (by omega)
  rw [lineStepX_err]
  split <;> omega

end LineRegs.Holds

/-! ## The registers along the path -/

section
variable (x0 y0 x1 y1 : Half) (e2 : BitVec 19)

theorem stepOf_signToward (p q : Int) : stepOf (signToward p q) = if p < q then 1 else -1 := by
  unfold signToward
  split <;> rfl

theorem coord_range (p : Half) : -32768 ≤ p.toInt ∧ p.toInt < 32768 := ⟨p.le_toInt, p.toInt_lt⟩

/-- A distance of two coordinates fits 16 bits (43_line R143). -/
theorem coord_distance_lt (p q : Half) : (q.toInt - p.toInt).natAbs < 65536 := by
  have := coord_range p
  have := coord_range q
  omega

theorem start_dx : (LineRegs.start x0 y0 x1 y1 e2).dx.toNat = (x1.toInt - x0.toInt).natAbs :=
  Nat.mod_eq_of_lt (coord_distance_lt x0 x1)

theorem start_dy : (LineRegs.start x0 y0 x1 y1 e2).dy.toNat = (y1.toInt - y0.toInt).natAbs :=
  Nat.mod_eq_of_lt (coord_distance_lt y0 y1)

theorem start_err : (LineRegs.start x0 y0 x1 y1 e2).err.toInt = |x1.toInt - x0.toInt| - |y1.toInt - y0.toInt| := by
  have dx := coord_distance_lt x0 x1
  have dy := coord_distance_lt y0 y1
  rw [← Int.natCast_natAbs, ← Int.natCast_natAbs, ← start_dx x0 y0 x1 y1 e2, ← start_dy x0 y0 x1 y1 e2] at *
  exact BitVec.toInt_ofInt_eq_self (by decide) (by omega) (by omega)

theorem holds_start : (LineRegs.start x0 y0 x1 y1 e2).Holds (LineState.start x0.toInt y0.toInt x1.toInt y1.toInt) where
  cx := rfl
  cy := rfl
  ex := rfl
  ey := rfl
  dx := by rw [start_dx, Int.natCast_natAbs]; rfl
  dy := by rw [start_dy, Int.natCast_natAbs]; rfl
  sx := stepOf_signToward _ _
  sy := stepOf_signToward _ _
  err := start_err x0 y0 x1 y1 e2

/-- Every state of the path is within the bounds, its point between the end points (43_line R143). -/
theorem lineFits_iterate {k : Nat} (within : k < lineLength x0.toInt y0.toInt x1.toInt y1.toInt) :
    LineFits (LineState.move^[k] (LineState.start x0.toInt y0.toInt x1.toInt y1.toInt)) := by
  have progress := lineProgress_stepsAfter _ _ _ _ within
  have cx := toward_between progress.first_le
  have cy := toward_between progress.second_le
  have dx := coord_distance_lt x0 x1
  have dy := coord_distance_lt y0 y1
  have low := progress.low
  have high := progress.high
  rw [LineState.iterate_move_start]
  zify at low high dx dy
  constructor <;> simp only [LineState.after, LineState.start]
  case cx => have := coord_range x0; have := coord_range x1; omega
  case cy => have := coord_range y0; have := coord_range y1; omega
  case dx => exact ⟨abs_nonneg _, dx⟩
  case dy => exact ⟨abs_nonneg _, dy⟩
  case low => linarith
  case high => linarith

/-- After `k` moves the registers hold the integers of the algorithm (43_line R143). -/
theorem holds_iterate {k : Nat} (within : k < lineLength x0.toInt y0.toInt x1.toInt y1.toInt) :
    (LineRegs.move^[k] (LineRegs.start x0 y0 x1 y1 e2)).Holds
      (LineState.move^[k] (LineState.start x0.toInt y0.toInt x1.toInt y1.toInt)) := by
  induction k with
  | zero => exact holds_start x0 y0 x1 y1 e2
  | succ k ih =>
    have before := Nat.lt_of_succ_lt within
    have fits := lineFits_iterate x0 y0 x1 y1 within
    rw [Function.iterate_succ_apply'] at fits ⊢
    rw [Function.iterate_succ_apply']
    exact (ih before).move (lineFits_iterate x0 y0 x1 y1 before) fits

end

/-- Settles O27: the bounds hold at every state of the path, and under them each move keeps registers and integers equal. -/
theorem lineRegistersHoldTheIntegers : Obligations.LineRegistersHoldTheIntegers := by
  intro x0 y0 x1 y1 e2 k within
  have fits := lineFits_iterate x0 y0 x1 y1 within
  have holds := holds_iterate x0 y0 x1 y1 e2 within
  have progress := lineProgress_stepsAfter _ _ _ _ within
  obtain ⟨xLow, xHigh⟩ := toward_between progress.first_le
  obtain ⟨yLow, yHigh⟩ := toward_between progress.second_le
  refine ⟨_, _, rfl, rfl, holds.cx, holds.cy, holds.dx, holds.dy, holds.err, holds.e2_double fits, fits.low, fits.high,
    fits.abs_err, ?e2, ?between⟩
  case e2 =>
    have err := fits.abs_err
    rw [abs_lt] at err ⊢
    omega
  case between => rw [LineState.iterate_move_start]; exact ⟨xLow, xHigh, yLow, yHigh⟩

end Sys2Proof.Machine
end

section
/-! DRAW_LINE as a whole (43_line R144 to R148): the point loop on the registers visits the path's points, and plotting them
lights exactly those in bounds. -/

namespace Sys2Proof.Machine

open Sys2Proof.Safety

/-! ## The point loop -/

theorem LineRegs.Holds.atEnd {r : LineRegs} {l : LineState} (h : r.Holds l) : r.atEnd = l.done := by
  rw [Bool.eq_iff_iff]
  simp only [LineRegs.atEnd, LineState.done, Bool.and_eq_true, decide_eq_true_eq]
  rw [← BitVec.toInt_inj, ← BitVec.toInt_inj, h.cx, h.cy, h.ex, h.ey]

/-- The plot of a point: lit where it is in bounds, skipped where it is not. -/
def plotPoint (m : Memory) (p : Int × Int) : Memory := if inBounds p.1 p.2 then m.writePixel true p.1 p.2 else m

theorem plot_eq_plotPoint (r : LineRegs) (m : Memory) : plot r m = plotPoint m (r.cx.toInt, r.cy.toInt) := rfl

/-- A loop that reaches its end after `k` moves plots the points before each of them and the last. -/
theorem lineRun_eq_foldl {r : LineRegs} {k n : Nat} (going : ∀ j < k, (LineRegs.move^[j] r).atEnd = false)
    (stop : (LineRegs.move^[k] r).atEnd = true) (enough : k < n) (m : Memory) :
    lineRun n r m = (LineRegs.move^[k] r, ((List.range (k + 1)).map fun j =>
      ((LineRegs.move^[j] r).cx.toInt, (LineRegs.move^[j] r).cy.toInt)).foldl plotPoint m) := by
  induction k generalizing r n m with
  | zero =>
    obtain ⟨n, rfl⟩ := Nat.exists_eq_succ_of_ne_zero enough.ne'
    have ends : r.atEnd = true := stop
    rw [lineRun_succ, if_pos ends]
    rfl
  | succ k ih =>
    obtain ⟨n, rfl⟩ := Nat.exists_eq_succ_of_ne_zero (Nat.ne_zero_of_lt enough)
    have goes : r.atEnd = false := going 0 (Nat.succ_pos k)
    rw [lineRun_succ, goes, List.range_succ_eq_map, List.map_cons, List.map_map, List.foldl_cons]
    exact ih (r := r.move) (fun j hj => going (j + 1) (by omega)) stop (Nat.lt_of_succ_lt_succ enough) _

/-- With any sufficient allowance the point loop makes `max(DX, DY)` moves and plots the path (43_line R144, R146). -/
theorem lineRun_start (x0 y0 x1 y1 : Half) (e2 : BitVec 19) (m : Memory) {n : Nat}
    (enough : lineLength x0.toInt y0.toInt x1.toInt y1.toInt ≤ n) :
    lineRun n (LineRegs.start x0 y0 x1 y1 e2) m =
      (LineRegs.move^[lineLength x0.toInt y0.toInt x1.toInt y1.toInt - 1] (LineRegs.start x0 y0 x1 y1 e2),
        (linePath x0.toInt y0.toInt x1.toInt y1.toInt).foldl plotPoint m) := by
  have pos : 0 < lineLength x0.toInt y0.toInt x1.toInt y1.toInt := Nat.succ_pos _
  obtain ⟨k, whole⟩ := Nat.exists_eq_add_one.2 pos
  rw [lineRun_eq_foldl (k := k) (fun j hj => ?going) ?stop (by omega), linePath_eq_map, whole]
  · congr 2
    refine List.map_congr_left fun j hj => ?_
    have holds := holds_iterate x0 y0 x1 y1 e2 (whole ▸ List.mem_range.1 hj)
    rw [holds.cx, holds.cy, LineState.iterate_move_start]
    rfl
  case going =>
    rw [(holds_iterate x0 y0 x1 y1 e2 (by omega)).atEnd, ← Bool.not_eq_true, done_iterate_iff _ _ _ _ (by omega)]
    omega
  case stop =>
    rw [(holds_iterate x0 y0 x1 y1 e2 (by omega)).atEnd]
    exact (done_iterate_iff _ _ _ _ (by omega)).2 whole.symm

theorem iterations_start (x0 y0 x1 y1 : Half) (e2 : BitVec 19) :
    (LineRegs.start x0 y0 x1 y1 e2).iterations = lineLength x0.toInt y0.toInt x1.toInt y1.toInt := by
  rw [LineRegs.iterations, start_dx, start_dy, lineLength]

/-- The point loop of the registers: its length, and the state it ends in (43_line R144). -/
theorem lineRun_iterations (x0 y0 x1 y1 : Half) (e2 : BitVec 19) (m : Memory) (n : Nat) :
    (LineRegs.start x0 y0 x1 y1 e2).iterations = lineLength x0.toInt y0.toInt x1.toInt y1.toInt ∧
    (LineRegs.start x0 y0 x1 y1 e2).iterations ≤ 65536 ∧
    ((LineRegs.start x0 y0 x1 y1 e2).iterations ≤ n →
      lineRun n (LineRegs.start x0 y0 x1 y1 e2) m =
        lineRun (LineRegs.start x0 y0 x1 y1 e2).iterations (LineRegs.start x0 y0 x1 y1 e2) m) ∧
    (lineRun (LineRegs.start x0 y0 x1 y1 e2).iterations (LineRegs.start x0 y0 x1 y1 e2) m).1.atEnd = true := by
  have dx := coord_distance_lt x0 x1
  have dy := coord_distance_lt y0 y1
  have pos : 0 < lineLength x0.toInt y0.toInt x1.toInt y1.toInt := Nat.succ_pos _
  rw [iterations_start, lineRun_start x0 y0 x1 y1 e2 m le_rfl, (holds_iterate x0 y0 x1 y1 e2 (by omega)).atEnd]
  refine ⟨rfl, ?_, fun enough => lineRun_start x0 y0 x1 y1 e2 m enough, (done_iterate_iff _ _ _ _ (by omega)).2 (by omega)⟩
  rw [lineLength]
  omega

/-- Settles O26: the path is the points after `0` to `max(DX, DY)` moves, the last of them the end point, and the loop on the
registers follows it. -/
theorem lineTakesMaxPlusOneIterations : Obligations.LineTakesMaxPlusOneIterations := by
  refine ⟨fun x0 y0 x1 y1 n enough => ?allowance, linePath_ends, fun x0 y0 x1 y1 k p q hp hq => ?move, lineRun_iterations⟩
  case allowance => rw [visit_start_eq_map x0 y0 x1 y1 enough, linePath_eq_map]
  case move =>
    obtain ⟨-, rfl⟩ := linePath_getElem? hp
    obtain ⟨within, rfl⟩ := linePath_getElem? hq
    exact linePoint_succ within

/-! ## What is lit -/

/-- Plotting points lights those of them that are in bounds and keeps every other pixel (43_line R146). -/
theorem pixel_foldl_plotPoint {x y : Int} (inside : inBounds x y = true) (points : List (Int × Int)) (m : Memory) :
    (points.foldl plotPoint m).pixel x y = (m.pixel x y || decide ((x, y) ∈ points)) := by
  induction points generalizing m with
  | nil => simp
  | cons p points ih =>
    have plotted : (plotPoint m p).pixel x y = (m.pixel x y || decide ((x, y) = p)) := by
      unfold plotPoint
      split
      · next inside' =>
        rw [pixel_writePixel m true inside' inside]
        by_cases same : (x, y) = p
        · simp [← same]
        · rw [if_neg fun h => same (Prod.ext h.1 h.2)]; simp [same]
      · next outside =>
        have other : (x, y) ≠ p := by rintro rfl; exact outside inside
        simp [other]
    rw [List.foldl_cons, ih, plotted, Bool.or_assoc]
    simp only [List.mem_cons, Bool.decide_or]

/-- A byte without a plotted point in bounds is kept. -/
theorem read_foldl_plotPoint {points : List (Int × Int)} {addr : Nat}
    (other : ∀ p ∈ points, inBounds p.1 p.2 = true → pixelIndex p.1 p.2 ≠ addr) (m : Memory) :
    (points.foldl plotPoint m).read addr = m.read addr := by
  induction points generalizing m with
  | nil => rfl
  | cons p points ih =>
    rw [List.foldl_cons, ih fun q hq => other q (List.mem_cons_of_mem p hq)]
    unfold plotPoint
    split
    · next inside => rw [read_writePixel, if_neg (other p List.mem_cons_self inside).symm]
    · rfl

/-- DRAW_LINE plots the path. -/
theorem drawLine_fb (x0 y0 x1 y1 : Half) (s : State) :
    (drawLine x0 y0 x1 y1 s).fb = (linePath x0.toInt y0.toInt x1.toInt y1.toInt).foldl plotPoint s.fb := by
  have run := lineRun_start x0 y0 x1 y1 s.line.e2 s.fb le_rfl
  rw [← iterations_start x0 y0 x1 y1 s.line.e2] at run
  exact congrArg Prod.snd run

/-- Settles O25: the framebuffer is the path plotted, and of the rest the body writes the line registers alone. -/
theorem drawLineLightsThePath : Obligations.DrawLineLightsThePath := by
  intro x0 y0 x1 y1 s valid
  refine ⟨drawLine x0 y0 x1 y1 s, exec_eq_operation (.inr valid), answered_respond rfl, fun x y inside => ?lit,
    fun addr other => ?kept, ⟨rfl, rfl, rfl, rfl⟩, ⟨rfl, rfl, rfl⟩, ⟨rfl, rfl, rfl, rfl, rfl, rfl⟩, ⟨rfl, rfl⟩,
    rfl, rfl, rfl, rfl⟩
  case lit => rw [drawLine_fb, pixel_foldl_plotPoint inside]
  case kept => rw [drawLine_fb, read_foldl_plotPoint other]

/-! ## The document's examples (43_line R147, R148) -/

/-- Settles O29: the first line is a row and the second a diagonal. -/
theorem drawLineExamples : Obligations.DrawLineExamples := by
  obtain ⟨row, -, diagonal⟩ := axisAlignedAndDiagonalLines
  have rowPath : linePath 0 0 10 0 = (List.range 11).map fun k : Nat => ((0 : Int) + k, (0 : Int)) := row 0 10 0
  have diagonalPath : linePath 0 0 5 5 = [(0, 0), (1, 1), (2, 2), (3, 3), (4, 4), (5, 5)] := diagonal 0 0 5 5 rfl
  refine fun s valid => ⟨?row, ?diagonal, diagonalPath⟩
  case row =>
    obtain ⟨t, run, -, lit, -⟩ := drawLineLightsThePath 0 0 10 0 s valid
    refine ⟨t, run, fun x y inside => (lit x y inside).trans (congrArg (s.fb.pixel x y || ·) ?_)⟩
    rw [inBounds_iff] at inside
    rw [← Bool.decide_and, decide_eq_decide]
    change _ ∈ linePath 0 0 10 0 ↔ _
    rw [rowPath]
    simp only [List.mem_map, List.mem_range, Prod.mk.injEq]
    constructor
    · rintro ⟨k, below, rfl, rfl⟩
      omega
    · exact fun onRow => ⟨x.toNat, by omega, by omega, onRow.2.symm⟩
  case diagonal =>
    obtain ⟨t, run, -, lit, -⟩ := drawLineLightsThePath 0 0 5 5 s valid
    refine ⟨t, run, fun x y inside => (lit x y inside).trans (congrArg (s.fb.pixel x y || ·) ?_)⟩
    rw [inBounds_iff] at inside
    rw [← Bool.decide_and, decide_eq_decide]
    change _ ∈ linePath 0 0 5 5 ↔ _
    rw [diagonalPath]
    simp only [List.mem_cons, Prod.mk.injEq, List.not_mem_nil, or_false]
    omega

/-- Settles O30: the two paths are evaluated, and plotted on the empty framebuffer. -/
theorem lineDirectionMatters : Obligations.LineDirectionMatters := by
  have there : linePath 0 0 2 1 = [(0, 0), (1, 0), (2, 1)] := by decide
  have back : linePath 2 1 0 0 = [(2, 1), (1, 1), (0, 0)] := by decide
  refine ⟨there, back, fun s valid empty => ⟨⟨_, exec_eq_operation (.inr valid), ?_⟩, ⟨_, exec_eq_operation (.inr valid), ?_⟩⟩⟩
  · exact (drawLine_fb 0 0 2 1 s).trans (by rw [empty]; decide)
  · exact (drawLine_fb 2 1 0 0 s).trans (by rw [empty]; decide)

end Sys2Proof.Machine
end

section
/-! DRAW_TEXT as a whole (44_text R150 to R155): the character loop is one region write of the glyphs that fit, the page is
read back through it, and out of range the response stands alone. -/

namespace Sys2Proof.Machine

open Sys2Proof.Safety

/-! ## Region writes, read back -/

/-- A region write as a total read: no proof that the byte lies inside stands in the equation. -/
theorem read_writeRow_getD (m : Memory) (base : Nat) (vs : List Byte) (addr : Nat) :
    (m.writeRow base vs).read addr =
      if base ≤ addr ∧ addr < base + vs.length then vs.getD (addr - base) 0 else m.read addr := by
  rw [Memory.read_writeRow]
  split
  · exact (List.getD_eq_getElem ..).symm
  · rfl

theorem read_writeRow_nil (m : Memory) (base addr : Nat) : (m.writeRow base []).read addr = m.read addr := by
  rw [read_writeRow_getD, if_neg (by rw [List.length_nil]; omega)]

/-- Two region writes side by side are one. -/
theorem read_writeRow_append (m : Memory) (base : Nat) (vs ws : List Byte) (addr : Nat) :
    ((m.writeRow base vs).writeRow (base + vs.length) ws).read addr = (m.writeRow base (vs ++ ws)).read addr := by
  simp only [read_writeRow_getD, List.length_append]
  by_cases left : addr < base + vs.length
  · rw [if_neg (by omega)]
    by_cases within : base ≤ addr
    · rw [if_pos ⟨within, left⟩, if_pos (by omega), List.getD_append _ _ _ _ (by omega)]
    · rw [if_neg (by omega), if_neg (by omega)]
  · by_cases right : addr < base + vs.length + ws.length
    · rw [if_pos (by omega), if_pos (by omega), List.getD_append_right _ _ _ _ (by omega), Nat.sub_add_eq]
    · rw [if_neg (by omega), if_neg (by omega), if_neg (by omega)]

/-- Consecutive bytes are a list of that length where they read so. -/
theorem readRow_eq_of_read {m : Memory} {base n : Nat} {vs : List Byte} (length : vs.length = n)
    (bytes : ∀ i, i < n → m.read (base + i) = vs.getD i 0) : m.readRow base n = vs := by
  refine List.ext_getElem (by simp [length]) fun i _ within => ?_
  rw [Memory.getElem_readRow, bytes i (length ▸ within), List.getD_eq_getElem]

/-! ## The glyphs of a text -/

/-- The glyphs of the first `n` supported characters, one after the other. -/
def glyphRow (n : Nat) (text : List Byte) : List Byte := ((text.filterMap glyphLookup).take n).flatten

theorem textGlyphs_eq_glyphRow (text : List Byte) : textGlyphs text = glyphRow 21 text := rfl

theorem glyphRow_nil (n : Nat) : glyphRow n [] = [] := by simp [glyphRow]

theorem glyphRow_zero (text : List Byte) : glyphRow 0 text = [] := rfl

theorem glyphRow_cons_of_none {ch : Byte} (skipped : glyphLookup ch = none) (n : Nat) (rest : List Byte) :
    glyphRow n (ch :: rest) = glyphRow n rest := by
  rw [glyphRow, List.filterMap_cons_none skipped, glyphRow]

theorem glyphRow_cons_of_some {ch : Byte} {g : List Byte} (copied : glyphLookup ch = some g) (n : Nat) (rest : List Byte) :
    glyphRow (n + 1) (ch :: rest) = g ++ glyphRow n rest := by
  rw [glyphRow, List.filterMap_cons_some copied, List.take_succ_cons, List.flatten_cons, glyphRow]

/-- Six bytes for a glyph (10_state R30). -/
theorem length_glyphRow_le (n : Nat) (text : List Byte) : (glyphRow n text).length ≤ 6 * n := by
  induction text generalizing n with
  | nil => simp [glyphRow_nil]
  | cons ch rest ih =>
    cases n with
    | zero => exact le_rfl
    | succ n =>
      cases lookup : glyphLookup ch with
      | none => rw [glyphRow_cons_of_none lookup]; exact ih (n + 1)
      | some g =>
        have := ih n
        rw [glyphRow_cons_of_some lookup, List.length_append, glyphLookup_length lookup]
        omega

/-- A text and its supported characters have the same glyphs (44_text R155). -/
theorem textGlyphs_filter (text : List Byte) :
    textGlyphs (text.filter fun ch => (glyphLookup ch).isSome) = textGlyphs text := by
  have lookups : (fun ch => if (glyphLookup ch).isSome = true then glyphLookup ch else none) = glyphLookup := by
    funext ch
    cases glyphLookup ch <;> rfl
  rw [textGlyphs, List.filterMap_filter, lookups, textGlyphs]

/-! ## The character loop -/

theorem textStep_of_none {ch : Byte} (skipped : glyphLookup ch = none) (base : Nat) (t : TextRegs) (m : Memory) :
    textStep base ch t m = (⟨t.cursor, t.chi + 1#16⟩, m) := by
  rw [textStep, skipped]

theorem textStep_of_some {ch : Byte} {g : List Byte} (copied : glyphLookup ch = some g) (base : Nat) (t : TextRegs)
    (m : Memory) : textStep base ch t m = (⟨t.cursor + 6#8, t.chi + 1#16⟩, m.writeRow (base + t.cursor.toNat) g) := by
  rw [textStep, copied]
  rfl

/-- The character loop with room for `n` more glyphs writes the next `n` of them from the cursor on; without room it stops
(44_text R151, R152). -/
theorem textRun_read (base : Nat) (text : List Byte) {n : Nat} {t : TextRegs} (room : t.cursor.toNat + 6 * n = 126)
    (m : Memory) (addr : Nat) :
    (textRun base text t m).2.read addr = (m.writeRow (base + t.cursor.toNat) (glyphRow n text)).read addr := by
  induction text generalizing n t m with
  | nil => rw [glyphRow_nil, read_writeRow_nil, textRun]
  | cons ch rest ih =>
    rw [textRun_cons]
    cases n with
    | zero => rw [if_pos (by simp only [Config.width, Config.glyphW]; omega), glyphRow_zero, read_writeRow_nil]
    | succ n =>
      rw [if_neg (by simp only [Config.width, Config.glyphW]; omega)]
      cases lookup : glyphLookup ch with
      | none => rw [textStep_of_none lookup, glyphRow_cons_of_none lookup]; exact ih (t := ⟨t.cursor, t.chi + 1#16⟩) room m
      | some g =>
        have moved : (t.cursor + 6#8).toNat = t.cursor.toNat + 6 := Nat.mod_eq_of_lt (by rw [BitVec.toNat_ofNat]; omega)
        rw [textStep_of_some lookup, glyphRow_cons_of_some lookup, ih (n := n) (by rw [moved]; omega), moved,
          ← Nat.add_assoc, ← glyphLookup_length lookup, read_writeRow_append]

/-! ## The page after DRAW_TEXT -/

theorem drawText_of_lt {line : Nat} (inRange : line < 16) (text : List Byte) (s : State) :
    drawText line text s = complete (forgetText (withText
      (textRun (pageBase line) text ⟨0#8, 0#16⟩ (clearedPage line s).fb).1
      (withFb (textRun (pageBase line) text ⟨0#8, 0#16⟩ (clearedPage line s).fb).2 (clearedPage line s)))) :=
  if_pos inRange

/-- A line index out of range: the response alone (44_text R150). -/
theorem drawText_of_ge {line : Nat} (outOfRange : 16 ≤ line) (text : List Byte) (s : State) :
    drawText line text s = respond .rangeErr 0#8 s :=
  if_neg (Nat.not_lt_of_ge outOfRange)

theorem pageBase_eq (line : Nat) : pageBase line = 128 * line := Nat.mul_comm line 128

theorem clearedPage_read (line : Nat) (s : State) (addr : Nat) :
    (clearedPage line s).fb.read addr = if 128 * line ≤ addr ∧ addr < 128 * line + 128 then 0 else s.fb.read addr := by
  rw [clearedPage, fillBytes_read, pageBase_eq]
  rfl

/-- Every byte after DRAW_TEXT: 21 glyphs fit a page, and past their end the page is the cleared one (44_text R151). -/
theorem drawText_read {line : Nat} (inRange : line < 16) (text : List Byte) (s : State) (addr : Nat) :
    (drawText line text s).fb.read addr =
      if 128 * line ≤ addr ∧ addr < 128 * line + 128 then textByte text (addr - 128 * line) else s.fb.read addr := by
  have fits := length_glyphRow_le 21 text
  have loop := textRun_read (pageBase line) text (n := 21) (t := ⟨0#8, 0#16⟩) rfl (clearedPage line s).fb addr
  rw [drawText_of_lt inRange]
  refine loop.trans ?_
  rw [BitVec.toNat_zero, Nat.add_zero, read_writeRow_getD, clearedPage_read, pageBase_eq, textByte, textGlyphs_eq_glyphRow]
  split_ifs with glyph page page
  · rfl
  · omega
  · exact (List.getD_eq_default _ _ (by omega)).symm
  · rfl

theorem exec_drawText (line : Half) (text : List Byte) {s : State} (valid : s.devValid = true) :
    exec (.drawText line text) s = .next (drawText line.toNat text s) := exec_eq_operation (.inr valid)

/-- Settles O32: the page is read back from the cleared page and the glyphs over it; of the rest the body writes the text
registers and `FILL_IDX` alone. -/
theorem drawTextWritesThePage : Obligations.DrawTextWritesThePage := by
  intro line text s valid inRange
  have body := drawText_of_lt inRange text s
  refine ⟨drawText line.toNat text s, exec_drawText line text valid, body ▸ answered_respond rfl, fun i within => ?page,
    fun addr outside => ?others, ?_⟩
  case page => rw [drawText_read inRange, if_pos (by omega), Nat.add_sub_cancel_left]
  case others => rw [drawText_read inRange, if_neg (by omega)]
  rw [body]
  exact ⟨⟨rfl, rfl, rfl, rfl⟩, ⟨rfl, rfl, rfl⟩, ⟨rfl, rfl, rfl, rfl, rfl, rfl⟩, ⟨rfl, rfl⟩, rfl, rfl, rfl⟩

/-- Settles O33: the unsigned range check fails before the page is cleared. -/
theorem drawTextOutOfRangeChangesNothing : Obligations.DrawTextOutOfRangeChangesNothing := by
  intro line text s valid outOfRange
  refine ⟨drawText line.toNat text s, exec_drawText line text valid, ?_⟩
  rw [drawText_of_ge outOfRange]
  exact ⟨answered_respond rfl, fun _ => rfl, ⟨rfl, rfl, rfl, rfl⟩, ⟨rfl, rfl, rfl⟩, ⟨rfl, rfl, rfl, rfl, rfl, rfl⟩,
    ⟨rfl, rfl, rfl, rfl, rfl⟩, rfl, rfl⟩

/-! ## The document's property (44_text R155) -/

/-- Texts with the same glyphs leave the same framebuffer. -/
theorem drawText_read_congr {text text' : List Byte} (same : textGlyphs text = textGlyphs text') (line : Nat) (s : State)
    (addr : Nat) : (drawText line text s).fb.read addr = (drawText line text' s).fb.read addr := by
  by_cases inRange : line < 16
  · rw [drawText_read inRange, drawText_read inRange, textByte, textByte, same]
  · rw [drawText_of_ge (Nat.le_of_not_lt inRange), drawText_of_ge (Nat.le_of_not_lt inRange)]

/-- Two glyphs side by side and nothing after them (44_text R151, R155). -/
theorem textByte_pair {ch ch' : Byte} {a b : List Byte} (first : glyphLookup ch = some a) (second : glyphLookup ch' = some b)
    (i : Nat) : textByte [ch, ch'] i = (a ++ b).getD i 0 := by
  rw [textByte, textGlyphs_eq_glyphRow, glyphRow_cons_of_some first, glyphRow_cons_of_some second, glyphRow_nil,
    List.append_nil]

/-- Settles O34: `A` and `B` have glyphs of six bytes each; a skipped character leaves the list of glyphs as it is. -/
theorem drawTextTwoGlyphs : Obligations.DrawTextTwoGlyphs := by
  refine ⟨fun s valid => ?twoGlyphs, fun line text s => ?skipped⟩
  case twoGlyphs =>
    obtain ⟨a, lookupA⟩ : ∃ a, glyphLookup 0x41 = some a := ⟨_, rfl⟩
    obtain ⟨b, lookupB⟩ : ∃ b, glyphLookup 0x42 = some b := ⟨_, rfl⟩
    have lengthA := glyphLookup_length lookupA
    have lengthB := glyphLookup_length lookupB
    have bytes (addr : Nat) := drawText_read (line := 0) (by decide) [0x41, 0x42] s addr
    simp only [textByte_pair lookupA lookupB, Nat.mul_zero, Nat.zero_le, true_and, Nat.zero_add, Nat.sub_zero] at bytes
    refine ⟨drawText 0 [0x41, 0x42] s, a, b, exec_drawText 0 _ valid, lookupA, lookupB,
      readRow_eq_of_read lengthA fun i within => ?first, readRow_eq_of_read lengthB fun i within => ?second,
      fun addr past inPage => ?rest, fun addr outside => ?others⟩
    case first => rw [bytes, if_pos (by omega), Nat.zero_add, List.getD_append _ _ _ _ (by omega)]
    case second =>
      rw [bytes, if_pos (by omega), List.getD_append_right _ _ _ _ (by omega), lengthA, Nat.add_sub_cancel_left]
    case rest => rw [bytes, if_pos inPage, List.getD_eq_default _ _ (by rw [List.length_append]; omega)]
    case others => rw [bytes, if_neg (by omega)]
  case skipped =>
    cases valid : s.devValid with
    | true =>
      exact ⟨_, _, exec_drawText line _ valid, exec_drawText line _ valid,
        drawText_read_congr (textGlyphs_filter text).symm line.toNat s⟩
    | false =>
      have notInit (text : List Byte) : (Instr.drawText line text).mnemonic ≠ "INIT" := by simp [Instr.mnemonic]
      exact ⟨_, _, exec_eq_noDevice (notInit _) valid, exec_eq_noDevice (notInit _) valid, fun _ => rfl⟩

end Sys2Proof.Machine
end

section
/-! REFRESH as a whole (45_refresh R160 to R166): the frames page by page, the transactions sent so far as an invariant of
the page loop, and from that the whole frame, the first `Err` and the data transactions. -/

namespace Sys2Proof.Machine

open Sys2Proof.Safety

/-! ## The frames, page by page -/

/-- The four frames of one page, its row last (45_refresh R161). -/
def pageFrames (m : Memory) (page : Nat) : List (List Byte) :=
  [commandFrame (Config.encPage (BitVec.ofNat 4 page)), commandFrame (Config.encColLo Config.colOffset),
    commandFrame (Config.encColHi Config.colOffset), dataFrame (m.readRow (128 * page) 128)]

theorem refreshFrames_eq (m : Memory) : refreshFrames m = (List.range 16).flatMap (pageFrames m) := rfl

theorem length_flatMap_pageFrames (m : Memory) (pages : Nat) :
    ((List.range pages).flatMap (pageFrames m)).length = 4 * pages := by
  simp [List.length_flatMap, pageFrames, Nat.mul_comm]

theorem length_refreshFrames (m : Memory) : (refreshFrames m).length = 64 := length_flatMap_pageFrames m 16

/-- The frames up to a place inside a page are those of the pages before it and the first ones of its own. -/
theorem take_refreshFrames (m : Memory) {page phase : Nat} (inside : page < 16) (within : phase ≤ 4) :
    (refreshFrames m).take (4 * page + phase) =
      (List.range page).flatMap (pageFrames m) ++ (pageFrames m page).take phase := by
  obtain ⟨above, split⟩ : ∃ above, 16 = page + 1 + above := Nat.exists_eq_add_of_le inside
  rw [refreshFrames_eq, split, List.range_add, List.range_succ, List.flatMap_append, List.flatMap_append,
    List.flatMap_singleton, List.append_assoc, ← length_flatMap_pageFrames m page, List.take_length_add_append,
    List.take_append_of_le_length within]

/-- The frame `PAGE_CTR` and `PHASE` point at is the next of its page (45_refresh R161). -/
theorem take_pageFrames_succ (s : State) :
    (pageFrames s.fb s.scan.pageCtr.toNat).take (s.scan.phase.toNat + 1) =
      (pageFrames s.fb s.scan.pageCtr.toNat).take s.scan.phase.toNat ++ [refreshFrame s] := by
  have bound := s.scan.phase.isLt
  unfold refreshFrame
  rw [pageFrames, BitVec.ofNat_toNat, pageRow, pageBase_eq]
  generalize s.scan.phase.toNat = phase at *
  interval_cases phase <;> rfl

/-- The frame `PAGE_CTR` and `PHASE` point at is the next of the whole REFRESH. -/
theorem take_refreshFrames_succ {s : State} (inside : s.scan.position < 64) :
    (refreshFrames s.fb).take (s.scan.position + 1) =
      (refreshFrames s.fb).take s.scan.position ++ [refreshFrame s] := by
  have bound := s.scan.phase.isLt
  have page : s.scan.pageCtr.toNat < 16 := by
    rw [ScanRegs.position] at inside
    omega
  rw [ScanRegs.position, Nat.add_assoc, take_refreshFrames _ page bound, take_refreshFrames _ page (by omega),
    take_pageFrames_succ, List.append_assoc]

/-! ## Consecutive transactions -/

theorem issued_concat (bus : Byte) (addr : BitVec 7) (answer : Nat → Answer) (k : Nat) (frames : List (List Byte))
    (frame : List Byte) : issued bus addr answer k (frames ++ [frame]) =
      issued bus addr answer k frames ++ [⟨bus, addr, frame, answer (k + frames.length)⟩] := by
  induction frames generalizing k with
  | nil => rfl
  | cons f fs ih =>
    rw [List.cons_append, issued, issued, ih, List.length_cons, Nat.add_right_comm k 1]
    rfl

theorem map_bytes_issued (bus : Byte) (addr : BitVec 7) (answer : Nat → Answer) (k : Nat) (frames : List (List Byte)) :
    (issued bus addr answer k frames).map (fun x => x.bytes) = frames := by
  induction frames generalizing k with
  | nil => rfl
  | cons f fs ih => rw [issued, List.map_cons, ih]

/-! ## The page loop -/

/-- Inside the REFRESH from `s`, in the state `t`, the first `n` transactions have been sent (45_refresh R160). -/
structure RefreshSent (n : Nat) (s t : State) : Prop where
  fb : t.fb = s.fb
  busId : t.busId = s.busId
  devAddr : t.devAddr = s.devAddr
  trace : t.trace = s.trace ++ issued s.busId s.devAddr s.nextAnswer 0 ((refreshFrames s.fb).take n)
  answers : ∀ k, t.nextAnswer k = s.nextAnswer (n + k)

theorem refreshSent_refreshStart (s : State) : RefreshSent 0 s (refreshStart s) :=
  ⟨rfl, rfl, rfl, (List.append_nil _).symm, fun k => congrArg s.nextAnswer (Nat.zero_add k).symm⟩

/-- A transaction sent where `PAGE_CTR` and `PHASE` count those before it is the next of the REFRESH. -/
theorem RefreshSent.afterTransact {n : Nat} {s t : State} (sent : RefreshSent n s t) (position : t.scan.position = n)
    (inside : n < 64) : RefreshSent (n + 1) s (afterTransact (refreshFrame t) t) where
  fb := by simpa using sent.fb
  busId := by simpa using sent.busId
  devAddr := by simpa using sent.devAddr
  trace := by
    have next := take_refreshFrames_succ (s := t) (position ▸ inside)
    rw [position, sent.fb] at next
    have length : ((refreshFrames s.fb).take n).length = n := by
      rw [List.length_take, length_refreshFrames]
      omega
    rw [next, issued_concat, length, ← List.append_assoc, ← sent.trace, record_trace, dropAnswer_trace, sent.busId,
      sent.devAddr, sent.answers, Nat.add_comm]
  answers k := by
    rw [record_nextAnswer, dropAnswer_nextAnswer, sent.answers, Nat.add_assoc, Nat.add_comm k]

/-- While the answers are `Ok` the page loop sends one frame after the other (45_refresh R161). -/
theorem refreshRun_of_ok {s : State} {n left : Nat} (total : n + left = refreshCount)
    (ok : ∀ k, k < n → s.nextAnswer k = .ok) :
    ∃ t, refreshRun refreshCount (refreshStart s) = refreshRun left t ∧ RefreshSent n s t ∧ t.scan.position = n := by
  induction n generalizing left with
  | zero => exact ⟨refreshStart s, by rw [← total, Nat.zero_add], refreshSent_refreshStart s, rfl⟩
  | succ n ih =>
    have inside : n < refreshCount := by omega
    obtain ⟨t, run, sent, position⟩ := ih (left := left + 1) (by omega) fun k before => ok k (by omega)
    have answer : t.nextAnswer 0 = .ok := (sent.answers 0).trans (ok n (Nat.lt_succ_self n))
    refine ⟨withScan t.scan.advance (afterTransact (refreshFrame t) t), run.trans ?next,
      { sent.afterTransact position inside with }, ?position⟩
    case next => rw [refreshRun_succ, answer]
    case position => rw [withScan_scan, position_advance (position ▸ inside), position]

/-- With every answer `Ok` the page loop sends all its frames. -/
theorem refreshRun_all_ok {s : State} (ok : ∀ k, k < 64 → s.nextAnswer k = .ok) :
    ∃ t, refreshRun refreshCount (refreshStart s) = (.ok, t) ∧ RefreshSent 64 s t := by
  obtain ⟨t, run, sent, -⟩ := refreshRun_of_ok (left := 0) rfl ok
  exact ⟨t, run, sent⟩

/-- The first `Err` ends the page loop, its own transaction the last one sent (45_refresh R164). -/
theorem refreshRun_first_err {s : State} {n : Nat} {e : Byte} (inside : n < 64) (ok : ∀ k, k < n → s.nextAnswer k = .ok)
    (err : s.nextAnswer n = .err e) :
    ∃ t, refreshRun refreshCount (refreshStart s) = (.err e, t) ∧ RefreshSent (n + 1) s t := by
  obtain ⟨left, total⟩ : ∃ left, 64 = n + 1 + left := Nat.exists_eq_add_of_le inside
  obtain ⟨t, run, sent, position⟩ := refreshRun_of_ok (left := left + 1) (by rw [refreshCount, Config.pages]; omega) ok
  have answer : t.nextAnswer 0 = .err e := (sent.answers 0).trans err
  exact ⟨_, by rw [run, refreshRun_succ, answer], sent.afterTransact position inside⟩

/-! ## What a REFRESH leaves behind -/

/-- From `s` to `t` a REFRESH has sent its first `n` frames and used up their answers, and all the rest is kept. -/
def SentFrames (n : Nat) (s t : State) : Prop :=
  t.trace = s.trace ++ issued s.busId s.devAddr s.nextAnswer 0 ((refreshFrames s.fb).take n) ∧
  (∀ k, t.nextAnswer k = s.nextAnswer (n + k)) ∧
  SameMemory s t ∧ SameDevice s t ∧ SameOperands s t ∧ SameHost s t ∧
  t.line = s.line ∧ t.text = s.text ∧ t.initIdx = s.initIdx ∧ t.fillIdx = s.fillIdx

/-- REFRESH answers what its page loop answers, and of what it keeps the page loop touches nothing. -/
theorem refreshPanel_of_run {n : Nat} {r : Answer} {s t : State}
    (run : refreshRun refreshCount (refreshStart s) = (r, t)) (sent : RefreshSent n s t) :
    Answered (codeOf r) (infoOf r) s (refreshPanel s) ∧ SentFrames n s (refreshPanel s) := by
  have body : refreshPanel s = respond (codeOf r) (infoOf r) (forgetScan t) := by
    rw [refreshPanel_eq, run, conclude_eq]
  obtain ⟨_, _, _, _, frame⟩ := refreshRun_frame refreshCount (refreshStart s)
  rw [run] at frame
  obtain rfl : t = _ := frame
  rw [body]
  exact ⟨answered_respond rfl, sent.trace, sent.answers, fun _ => rfl, ⟨rfl, rfl, rfl, rfl⟩, ⟨rfl, rfl, rfl, rfl, rfl, rfl⟩,
    ⟨rfl, rfl⟩, rfl, rfl, rfl, rfl⟩

theorem refreshPanel_all_ok {s : State} (ok : ∀ k, k < 64 → s.nextAnswer k = .ok) :
    Answered .ok 0 s (refreshPanel s) ∧ SentFrames 64 s (refreshPanel s) := by
  obtain ⟨t, run, sent⟩ := refreshRun_all_ok ok
  exact refreshPanel_of_run run sent

theorem refreshPanel_first_err {s : State} {n : Nat} {e : Byte} (inside : n < 64)
    (ok : ∀ k, k < n → s.nextAnswer k = .ok) (err : s.nextAnswer n = .err e) :
    Answered .busErr e s (refreshPanel s) ∧ SentFrames (n + 1) s (refreshPanel s) := by
  obtain ⟨t, run, sent⟩ := refreshRun_first_err inside ok err
  exact refreshPanel_of_run run sent

theorem exec_refresh {s : State} (valid : s.devValid = true) : exec .refresh s = .next (refreshPanel s) :=
  exec_eq_operation (.inr valid)

/-- Settles O35: the page loop runs to its end, and 64 frames are all of them. -/
theorem refreshSendsTheWholeFrame : Obligations.RefreshSendsTheWholeFrame := by
  intro s valid ok
  obtain ⟨answered, trace, kept⟩ := refreshPanel_all_ok ok
  rw [List.take_of_length_le (length_refreshFrames s.fb).le] at trace
  exact ⟨refreshPanel s, exec_refresh valid, answered, trace, length_refreshFrames s.fb, kept⟩

/-- Settles O36: the page loop runs up to the transaction that fails and ends with it. -/
theorem refreshStopsAtTheFirstError : Obligations.RefreshStopsAtTheFirstError := fun s _ _ valid inside ok err =>
  ⟨refreshPanel s, exec_refresh valid, refreshPanel_first_err inside ok err⟩

/-! ## The data transactions (45_refresh R166) -/

/-- Whether a frame is a data frame, by its control byte (30_encoding R88). -/
def isDataFrame (frame : List Byte) : Bool := decide (frame.head? = some Config.ctrlData)

@[simp] theorem isDataFrame_dataFrame (bs : List Byte) : isDataFrame (dataFrame bs) = true := by
  simp [isDataFrame, dataFrame]

@[simp] theorem isDataFrame_commandFrame (b : Byte) : isDataFrame (commandFrame b) = false := by
  simp [isDataFrame, commandFrame, Config.ctrlData_ne_ctrlCmd.symm]

/-- The data transactions among consecutive ones carry the data frames. -/
theorem dataFrames_issued (bus : Byte) (addr : BitVec 7) (answer : Nat → Answer) (k : Nat) (frames : List (List Byte)) :
    ((issued bus addr answer k frames).filter fun x => decide (x.bytes.head? = some Config.ctrlData)).map
      (fun x => x.bytes) = frames.filter isDataFrame := by
  conv_rhs => rw [← map_bytes_issued bus addr answer k frames, List.filter_map]
  rfl

/-- The one data frame of a page is its last frame (45_refresh R161). -/
theorem dataFrames_pageFrames (m : Memory) (page : Nat) :
    (pageFrames m page).filter isDataFrame = [dataFrame (m.readRow (128 * page) 128)] := by
  simp [pageFrames]

/-- The data frames up to a place inside a page: one for each page before it, and its own once that is sent. -/
theorem dataFrames_take_refreshFrames (m : Memory) {page phase : Nat} (inside : page < 16) (within : phase < 4) :
    ((refreshFrames m).take (4 * page + phase + 1)).filter isDataFrame =
      (List.range (page + phase / 3)).map fun p => dataFrame (m.readRow (128 * p) 128) := by
  rw [Nat.add_assoc, take_refreshFrames m inside within, List.filter_append, List.filter_flatMap]
  simp only [dataFrames_pageFrames, ← List.map_eq_flatMap]
  obtain rfl | command : phase = 3 ∨ phase < 3 := by omega
  · rw [List.range_succ, List.map_append]
    exact congrArg _ (dataFrames_pageFrames m page)
  · rw [Nat.div_eq_of_lt command, Nat.add_zero, List.append_right_eq_self]
    interval_cases phase <;> simp [pageFrames]

/-- Settles O37: what is issued is a first part of the frames, whose data frames are counted by its pages. -/
theorem refreshDataTransactions : Obligations.RefreshDataTransactions := by
  refine fun s valid => ⟨fun ok => ?allOk, fun page phase e inside within ok err => ?firstErr⟩
  case allOk =>
    obtain ⟨-, trace, -⟩ := refreshPanel_all_ok ok
    exact ⟨refreshPanel s, _, exec_refresh valid, trace, (dataFrames_issued ..).trans
      (dataFrames_take_refreshFrames s.fb (page := 15) (phase := 3) (by decide) (by decide))⟩
  case firstErr =>
    obtain ⟨answered, trace, -⟩ := refreshPanel_first_err (by omega) ok err
    exact ⟨refreshPanel s, _, exec_refresh valid, trace, answered.result, answered.information, map_bytes_issued ..,
      (dataFrames_issued ..).trans (dataFrames_take_refreshFrames s.fb inside within)⟩

end Sys2Proof.Machine
end

section
/-! The device check (60_exceptions R174 step 2): an operation that ends at it has only responded, and a response writes
nothing but the result and what marks the end of the operation. -/

namespace Sys2Proof.Machine

open Sys2Proof.Safety

/-- A response by itself leaves everything a program computes with as it is (30_encoding R81 step 4). -/
theorem respond_frame (code : ResultCode) (info : Byte) (s : State) :
    SameDevice s (respond code info s) ∧ SameOperands s (respond code info s) ∧ SameMemory s (respond code info s) ∧
      SameBus s (respond code info s) ∧ SameWork s (respond code info s) ∧ SameHost s (respond code info s) := by
  simp [SameDevice, SameOperands, SameMemory, SameBus, SameWork, SameHost]

/-- Settles O14: without a Device every operation but INIT is one response, `NO_DEVICE`. -/
theorem noDeviceIsReported : Obligations.NoDeviceIsReported := fun _ s invalid notInit =>
  ⟨respond .noDevice 0 s, exec_eq_noDevice notInit invalid, respond_answered .noDevice 0 s, respond_frame .noDevice 0 s⟩

end Sys2Proof.Machine
end

section
/-! Reset (70_reset_and_hazards R200 to R202): the state it gives, and the inputs a busy block does not take. -/

namespace Sys2Proof.Machine

open Sys2Proof.Safety

/-! ## A busy block -/

theorem not_ready_of_busy {s : State} (busy : s.busy = true) : s.ready = false := by
  simp [State.ready, busy]

theorem step_reset_of_not_ready {s : State} {rest : List HostInput} (notReady : s.ready = false)
    (host : s.host = .reset :: rest) : step s = .fault .resetWhileBusy := by
  simp [step, serveHost, notReady, host]

theorem step_packet_of_not_ready {s : State} {hd : HeaderWord} {payload : List Byte} {rest : List HostInput}
    (notReady : s.ready = false) (host : s.host = .packet hd payload :: rest) : step s = .fault .midOperation := by
  simp [step, serveHost, notReady, host]

/-- Settles O7: a busy block is not ready, and the step of a block that is not ready is the fault of its next input. -/
theorem busyBlockHasNoStep : Obligations.BusyBlockHasNoStep := fun _ busy =>
  have notReady := not_ready_of_busy busy
  ⟨fun _ host => step_reset_of_not_ready notReady host, fun _ _ _ host => step_packet_of_not_ready notReady host⟩

/-! ## The reset state -/

/-- Settles O8: a ready block takes the reset, which keeps only what lies outside the block. -/
theorem resetInputGivesTheResetState : Obligations.ResetInputGivesTheResetState := fun _ _ idle notBusy host =>
  step_of_reset (ready_of_idle idle notBusy) host

/-- A reset of the block at power-on changes nothing. -/
@[simp] theorem resetBlock_reset : resetBlock State.reset = State.reset := rfl

/-- Settles O45: the reset state is what a reset input makes of it, and a reset input gives a state of the invariant. -/
theorem invariantAtReset : Obligations.InvariantAtReset := by
  have inv : Inv (resetBlock State.reset) := inv_resetBlock State.reset
  rwa [resetBlock_reset] at inv

/-- `STATUS` without a Device, an operation, a warning or a failure (10_state R26). -/
theorem status_eq_zero {s : State} (info : s.lastInfo = 0) (result : s.lastResult = .ok) (warn : s.initWarn = false)
    (valid : s.devValid = false) (busy : s.busy = false) : s.status = 0 := by
  simp [State.status, info, result, warn, valid, busy, ResultCode.number]

/-- Settles O1: the values are the reset state's own fields, and with all its fields 0 `STATUS` is 0. -/
theorem resetStateOfTheSpec : Obligations.ResetStateOfTheSpec :=
  ⟨rfl, rfl, rfl, rfl, rfl, status_eq_zero rfl rfl rfl rfl rfl, rfl, rfl⟩

end Sys2Proof.Machine
end
